-- ==== Sys2Proof/Word.lean ====
section
/-! DEFINITION. The bit-vector words of the Ulcara 6140: what the data book treats as bits. -/

namespace Sys2Proof

/-- One byte on SD[7:0] (R154) or one payload byte (R174). -/
abbrev Byte := BitVec 8

/-- A 32-bit data word (Conventions, "Addresses, words, lanes and lines"; R121). -/
abbrev Word := BitVec 32

/-- A two-byte payload field (R174). -/
abbrev Half := BitVec 16

/-- Address bits 31..2 of a host transaction: the H-port carries no others (R1). -/
abbrev WordAddr := BitVec 30

/-- A subset of the four byte lanes of a word, bit n for lane n (R1, R174). -/
abbrev Lanes := BitVec 4

end Sys2Proof
end

