-- ==== Sys2Proof/Syntax.lean ====
section
/-! DEFINITION. The commands of the block, one constructor per row of spec/opcode_table.json, with their operands.

Operands that reach the part as payload bytes stay the bytes they are (R174, R177 to R182), so that an undefined
code or an out-of-range number can be commanded and is answered BAD_PARAM by its own rule. -/

namespace Sys2Proof

/-- Bus master number 0..7 (R1). -/
abbrev Master := Fin 8

/-- Request tag 0..15 (R1). -/
abbrev Tag := Fin 16

/-- Transit index 0..31 (R2). -/
abbrev TransitIndex := Fin 32

/-- The direction of a transfer (R1). -/
inductive Kind where
  | read
  | write
  deriving DecidableEq, Repr

/-- The kind of a request together with its write data, which is present for WRITE only (R1, R2). -/
inductive Access where
  | read
  | write (data : Word)
  deriving DecidableEq, Repr

/-- A host request as the H-port carries it (R1). -/
structure Request where
  master : Master
  tag    : Tag
  access : Access
  addr   : WordAddr
  lanes  : Lanes
  deriving DecidableEq, Repr

/-- What memory returns with a transit index: a status and, for a read answered OK, the read data (R15). -/
inductive MemReply where
  | ok (data : Word)
  | error
  deriving DecidableEq, Repr

/-- The 17 payload bytes of WRITE WINDOW, field by field, uninterpreted (R177). -/
structure WindowImage where
  index          : Byte
  base           : Word
  exponent       : Byte
  control        : Byte
  masters        : Byte
  cls            : Byte
  deadlineCode   : Byte
  deadlineAction : Byte
  fill           : Word
  readList       : Byte
  writeList      : Byte
  deriving DecidableEq, Repr

/-- The commands: events at the H-port, the M-port and the reset pins, the timers of the part, transfers on the
S-link, and the 25 framed commands of the supervisor. -/
inductive Instr where
  /-- HEAD_REQUEST_PRESENTED (R1): the host presents a head request. -/
  | headRequestPresented (r : Request)
  /-- ACCEPTANCE (R7). -/
  | acceptance
  /-- ISSUE (R14): memory takes the head of the issue queue. -/
  | issue
  /-- MEMORY_RESPONSE (R15): memory names a transit index. -/
  | memoryResponse (i : TransitIndex) (reply : MemReply)
  /-- HOST_TAKE (R17). -/
  | hostTake
  /-- HOST_RESET (R18): HRESET# is asserted. -/
  | hostReset
  /-- HRESET_NEGATION (R19). -/
  | hresetNegation
  /-- POWER_ON_RESET (R22): PRESET# is asserted. -/
  | powerOnReset
  /-- PRESET_NEGATION (R185). -/
  | presetNegation
  /-- DEADLINE_EXPIRY (R55) of the held entry named. -/
  | deadlineExpiry (i : TransitIndex)
  /-- GAP_TIMER_EXPIRY (R159). -/
  | gapTimerExpiry
  /-- QUIESCE_COMPLETION (R168). -/
  | quiesceCompletion
  /-- QUIESCE_TIMER_EXPIRY (R168). -/
  | quiesceTimerExpiry
  /-- FRAME_WRITE (R157): a byte written at SA0 = 0. -/
  | frameWrite (b : Byte)
  /-- FRAME_READ (R162): a byte read at SA0 = 0. -/
  | frameRead
  /-- ABORT (R164): a byte written at SA0 = 1; 01h is the abort, any other value is ignored. -/
  | abort (control : Byte)
  /-- IDENTIFY (R172). -/
  | identify
  /-- SURVEY (R173). -/
  | survey
  /-- WRITE_WINDOW (R32). -/
  | writeWindow (w : WindowImage)
  /-- READ_WINDOW (R35): window index and clear-after-read flag. -/
  | readWindow (index flag : Byte)
  /-- SET_ARBITRATION (R96): the five settings (R178). -/
  | setArbitration (order nesting floor suppressed notify : Byte)
  /-- READ_ARBITRATION (R97). -/
  | readArbitration
  /-- TAKE (R87). -/
  | take
  /-- PEEK (R91). -/
  | peek (ctx : Byte)
  /-- RELEASE (R105). -/
  | release (ctx : Byte) (ticket : Half)
  /-- RELEASE_WITH_DATA (R107). -/
  | releaseWithData (ctx : Byte) (ticket : Half) (lanes : Byte) (data : Word)
  /-- ANSWER (R108). -/
  | answer (ctx : Byte) (ticket : Half) (data : Word)
  /-- REFUSE (R110). -/
  | refuse (ctx : Byte) (ticket : Half)
  /-- EXTEND (R111). -/
  | extend (ctx : Byte) (ticket : Half) (code : Byte)
  /-- SET_LIST (R125): list id, first cell, length, list control (R180). -/
  | setList (list : Byte) (first length : Half) (control : Byte)
  /-- LOAD_CELLS (R122): start cell and 1 to 12 data words. -/
  | loadCells (start : Half) (words : List Word)
  /-- ARM_LIST (R126). -/
  | armList (list : Byte)
  /-- DISARM_LIST (R127). -/
  | disarmList (list : Byte)
  /-- READ_LIST (R128). -/
  | readList (list : Byte)
  /-- DRAIN_CAPTURE (R132): list id and record count. -/
  | drainCapture (list count : Byte)
  /-- READ_ATTENTION (R149): a cause number. -/
  | readAttention (cause : Byte)
  /-- CLEAR_ATTENTION (R150): a set of causes. -/
  | clearAttention (causes : Half)
  /-- SET_ATTENTION_ENABLE (R151): a set of causes. -/
  | setAttentionEnable (causes : Half)
  /-- GATE (R166): 00h open, 01h close. -/
  | gate (code : Byte)
  /-- QUIESCE (R167). -/
  | quiesce
  /-- SOFT_RESET (R170). -/
  | softReset
  deriving DecidableEq, Repr

end Sys2Proof
end

