-- ==== Sys2Proof/Decode.lean ====
section
/-! DEFINITION. Table words. No row of spec/opcode_table.json gives bits ("fields" is empty in every row, and no row is
fixed), so no word spells a command. The supervisor's command frames, which do have an encoding (R175), are read in
Sys2Proof/Machine/Frame.lean. -/

namespace Sys2Proof

/-- The command a table word spells: none, since no row of the table has bits. -/
def decodeTableWord (_nbits _w : Nat) : Option Instr := none

end Sys2Proof
end

