-- ==== Sys2Proof/Machine/State.lean ====
section
/-! DEFINITION. Everything the data book gives the part to hold, as plain data, with its values after power-on reset.

What the book defines as a function of other state is not stored a second time: the H-port's stall reason (R10), NOTIFY
(R92), ATTN (R148), the link status byte (R165), the response and the request presented at the two ports (R16, R14) and
the fields of the receive record that are read off the received bytes (R155) are functions in Sys2Proof/Machine. -/

namespace Sys2Proof.Machine

/-- Number of a window, 0..23 (R23). -/
abbrev WindowIndex := Fin 24

/-- Service class, 0..5 (R78). -/
abbrev ServiceClass := Fin 6

/-- Number of a service context, 0..3 (R85). -/
abbrev ContextIndex := Fin 4

/-- Ordinal of an answer list (lists 0..3) or of a capture list (lists 4..7) among its kind (R123). -/
abbrev ListOrdinal := Fin 4

/-! ## Window table (chapter 2) -/

/-- What a decision does with a request (R23). -/
inductive WindowAction where
  | pass
  | trap
  | refuse
  | list
  deriving DecidableEq, Repr

/-- The kinds of request a window applies to (R23). -/
inductive Filter where
  | both
  | reads
  | writes
  deriving DecidableEq, Repr

/-- What the expiry of a hold does (R23, R55). -/
inductive DeadlineAction where
  | release
  | refuse
  | fill
  deriving DecidableEq, Repr

/-- One window of the window table (R23). `readList` n is answer list n, `writeList` n is capture list 4 + n. -/
structure Window where
  valid          : Bool
  base           : Word
  exponent       : Fin 32
  filter         : Filter
  masters        : BitVec 8
  action         : WindowAction
  cls            : ServiceClass
  deadlineCode   : Fin 16
  deadlineAction : DeadlineAction
  fill           : Word
  readList       : Option ListOrdinal
  writeList      : Option ListOrdinal
  hits           : BitVec 16
  deriving DecidableEq, Repr

/-- A window at its power-on value (R37). -/
def Window.powerOn : Window :=
  { valid := false, base := 0, exponent := 2, filter := .both, masters := 0, action := .pass, cls := 0,
    deadlineCode := 0, deadlineAction := .release, fill := 0, readList := none, writeList := none, hits := 0 }

/-- The decision snapshot recorded at acceptance (R2, R28). -/
structure Decision where
  window         : Option WindowIndex
  action         : WindowAction
  cls            : ServiceClass
  deadlineCode   : Fin 16
  deadlineAction : DeadlineAction
  fill           : Word
  readList       : Option ListOrdinal
  writeList      : Option ListOrdinal
  deriving DecidableEq, Repr

/-- The unmatched decision (R28). -/
def Decision.unmatched : Decision :=
  { window := none, action := .pass, cls := 0, deadlineCode := 0, deadlineAction := .release, fill := 0,
    readList := none, writeList := none }

/-! ## Transit table (chapter 1) -/

/-- The response kept in a DONE entry: OK with a READ's data, OK for a WRITE, or ERROR (R2). -/
inductive Response where
  | okWord (data : Word)
  | ok
  | error
  deriving DecidableEq, Repr

/-- Route states other than FREE; the response is present in DONE only (R2). WAITING and TAKEN are in the slot record,
which is the one place that keeps them (R41). -/
inductive Route where
  | issueWait
  | inMemory
  | held
  | blocked
  | done (response : Response)
  | orphan
  deriving DecidableEq, Repr

/-- A transit entry in use (R2); a FREE entry is `none` in the table. `decision` is absent after a tag clash, `offset`
is the word offset within the selected LIST window (R129). -/
structure Entry where
  req      : Request
  route    : Route
  decision : Option Decision
  offset   : Option (BitVec 10)
  deriving DecidableEq, Repr

/-! ## Hold pool (chapter 3) -/

/-- How an entry came to be held (R41). -/
inductive HowHeld where
  | trapWindow
  | listFallback
  deriving DecidableEq, Repr

/-- A slot record (R41). `context` is `none` while WAITING and the open context while TAKEN; the hold-arrival position is
the record's place in `State.pool`. Times are readings of the timebase. -/
structure Slot where
  entry     : TransitIndex
  heldSince : Nat
  deadline  : Option Nat
  how       : HowHeld
  context   : Option ContextIndex
  deriving DecidableEq, Repr

/-! ## Service arbiter (chapter 5) -/

/-- Order mode (R80). -/
inductive OrderMode where
  | fixed
  | rotating
  deriving DecidableEq, Repr

/-- Nesting mode (R83). -/
inductive NestingMode where
  | nested
  | flat
  deriving DecidableEq, Repr

/-- The five settings of SET ARBITRATION (R96). -/
structure Arbitration where
  order      : OrderMode
  nesting    : NestingMode
  floor      : ServiceClass
  suppressed : BitVec 6
  notifyOn   : Bool
  deriving DecidableEq, Repr

/-- The arbitration settings at power-on and after SOFT RESET (R99, R100). -/
def Arbitration.powerOn : Arbitration :=
  { order := .fixed, nesting := .nested, floor := 5, suppressed := 0, notifyOn := true }

/-- An OPEN service context (R85); a FREE one is `none`. -/
structure OpenContext where
  ticket : BitVec 16
  entry  : TransitIndex
  cls    : ServiceClass
  deriving DecidableEq, Repr

/-! ## List unit (chapter 7) -/

/-- One cell of list memory with its side fields (R121). -/
structure Cell where
  data   : Word
  lanes  : Lanes
  master : Master
  offset : BitVec 10
  deriving DecidableEq, Repr

/-- The contents of a cell that nothing has written since power-on reset (R136). -/
def Cell.blank : Cell := { data := 0, lanes := 0, master := 0, offset := 0 }

/-- What a list does with a request it cannot serve (R133). -/
inductive Exhaustion where
  | pass
  | trap
  | refuse
  deriving DecidableEq, Repr

/-- States of an answer list (R123). -/
inductive AnswerState where
  | idle
  | armed
  | exhausted
  deriving DecidableEq, Repr

/-- States of a capture list (R123). -/
inductive CaptureState where
  | idle
  | armed
  | full
  deriving DecidableEq, Repr

/-- The descriptor of an answer list (R123). -/
structure AnswerList where
  first      : Nat
  length     : Nat
  exhaustion : Exhaustion
  reload     : Bool
  state      : AnswerState
  position   : Nat
  remaining  : Nat
  deriving DecidableEq, Repr

/-- The descriptor of a capture list (R123); it keeps no reload, which reads as off (R125). -/
structure CaptureList where
  first      : Nat
  length     : Nat
  exhaustion : Exhaustion
  state      : CaptureState
  head       : Nat
  count      : Nat
  deriving DecidableEq, Repr

/-- An answer list's descriptor at power-on (R136). -/
def AnswerList.powerOn : AnswerList :=
  { first := 0, length := 1, exhaustion := .pass, reload := false, state := .idle, position := 0, remaining := 0 }

/-- A capture list's descriptor at power-on (R136). -/
def CaptureList.powerOn : CaptureList :=
  { first := 0, length := 1, exhaustion := .pass, state := .idle, head := 0, count := 0 }

/-! ## Attention unit (chapter 8) -/

/-- A set cause record: its occurrences and the detail of the first (R140). A clear record is `none`. -/
structure CauseRecord (α : Type) where
  occurrences : Nat
  detail      : α
  deriving DecidableEq, Repr

/-- Detail of DEADLINE (R143). -/
structure DeadlineDetail where
  window  : Option WindowIndex
  cls     : ServiceClass
  master  : Master
  addr    : WordAddr
  action  : DeadlineAction
  context : Option ContextIndex
  deriving DecidableEq, Repr

/-- Detail of HOLD_FULL (R143). -/
structure HoldFullDetail where
  master : Master
  addr   : WordAddr
  window : Option WindowIndex
  deriving DecidableEq, Repr

/-- Detail of BLOCK_FULL (R143). -/
structure BlockFullDetail where
  master : Master
  addr   : WordAddr
  deriving DecidableEq, Repr

/-- What made a refusal: the window's action or a list's exhaustion action (R144). -/
inductive RefusalSource where
  | window
  | list
  deriving DecidableEq, Repr

/-- Detail of REFUSAL (R144). -/
structure RefusalDetail where
  window : Option WindowIndex
  master : Master
  addr   : WordAddr
  kind   : Kind
  source : RefusalSource
  deriving DecidableEq, Repr

/-- Detail of MEMORY_ERROR (R145). -/
structure MemoryErrorDetail where
  master : Master
  tag    : Tag
  addr   : WordAddr
  kind   : Kind
  deriving DecidableEq, Repr

/-- Detail of TAG_CLASH (R145). -/
structure TagClashDetail where
  master : Master
  tag    : Tag
  deriving DecidableEq, Repr

/-- Fault kinds of LINK_FAULT (R146). -/
inductive LinkFaultKind where
  | gap
  | overlong
  | writeWhileBusy
  deriving DecidableEq, Repr

/-- Detail of LINK_FAULT (R146). -/
structure LinkFaultDetail where
  kind  : LinkFaultKind
  bytes : Nat
  deriving DecidableEq, Repr

/-- Detail of HOST_RESET (R147). -/
structure HostResetDetail where
  held     : Nat
  blocked  : Nat
  orphaned : Nat
  deriving DecidableEq, Repr

/-- The ten cause records, in cause-number order (R140). -/
structure Causes where
  deadline    : Option (CauseRecord DeadlineDetail)
  holdFull    : Option (CauseRecord HoldFullDetail)
  blockFull   : Option (CauseRecord BlockFullDetail)
  answerOut   : Option (CauseRecord ListOrdinal)
  captureFull : Option (CauseRecord ListOrdinal)
  refusal     : Option (CauseRecord RefusalDetail)
  memoryError : Option (CauseRecord MemoryErrorDetail)
  tagClash    : Option (CauseRecord TagClashDetail)
  linkFault   : Option (CauseRecord LinkFaultDetail)
  hostReset   : Option (CauseRecord HostResetDetail)
  deriving DecidableEq, Repr

/-- Every cause clear (R152). -/
def Causes.clear : Causes :=
  { deadline := none, holdFull := none, blockFull := none, answerOut := none, captureFull := none, refusal := none,
    memoryError := none, tagClash := none, linkFault := none, hostReset := none }

/-! ## Supervisor link (chapter 9) -/

/-- The link state with the records R155 gives each state. `receiving` holds the bytes of the frame so far, from which its
number of bytes, its length L and its running sum are read; `since` is the timebase reading at which the gap timer was last
started; `started` that of the quiesce timer; `length` is L of the command record; `taken` counts response bytes read. -/
inductive LinkState where
  | idle
  | receiving (bytes : List Byte) (since : Nat)
  | discarding (since : Nat)
  | executing (length : Nat) (started : Nat)
  | responding (length : Nat) (frame : List Byte) (taken : Nat)
  deriving DecidableEq, Repr

/-- The gate (R166). -/
inductive Gate where
  | opened
  | closed
  deriving DecidableEq, Repr

/-! ## The whole part -/

/-- The state of the 6140, with the queue of commands waiting for it.

`now` is the timebase (R49); `preset` and `hreset` say that PRESET# and HRESET# are asserted; `head` is the head request at
the H-port (R1) and `episode` that a stall episode is in progress for it (R10); `acceptOrder`, `issueQ`, `respQ`, `blocked`
are the ordered collections of R3, R13, R16 and R63, oldest first; `pool` is the hold pool in hold-arrival order (R42);
`ticket` is the take-ticket counter (R86); `cells` is list memory in the canonical form of Sys2Proof/Machine/ListMemory.lean;
`sdOut` is the byte the link drove on SD[7:0] at the latest frame read, `none` where it drove none. -/
structure State where
  now          : Nat
  preset       : Bool
  hreset       : Bool
  head         : Option Request
  episode      : Bool
  entries      : Vector (Option Entry) 32
  acceptOrder  : List TransitIndex
  issueQ       : List TransitIndex
  respQ        : List TransitIndex
  blocked      : List TransitIndex
  pool         : List Slot
  windows      : Vector Window 24
  arb          : Arbitration
  ticket       : BitVec 16
  contexts     : Vector (Option OpenContext) 4
  cells        : List (Nat × Cell)
  answerLists  : Vector AnswerList 4
  captureLists : Vector CaptureList 4
  causes       : Causes
  enabled      : BitVec 10
  link         : LinkState
  gate         : Gate
  sdOut        : Option Byte
  pending      : List Instr
  deriving DecidableEq, Repr

/-- The part right after power-on reset, PRESET# negated (R22, R37, R59, R76, R100, R136, R152, R155). HRESET# negated
and no byte on SD are DESIGN CHOICE values (log entries 2 and 9). -/
def State.reset : State :=
  { now := 0, preset := false, hreset := false, head := none, episode := false,
    entries := Vector.replicate 32 none, acceptOrder := [], issueQ := [], respQ := [], blocked := [], pool := [],
    windows := Vector.replicate 24 Window.powerOn, arb := Arbitration.powerOn, ticket := 0,
    contexts := Vector.replicate 4 none, cells := [],
    answerLists := Vector.replicate 4 AnswerList.powerOn, captureLists := Vector.replicate 4 CaptureList.powerOn,
    causes := Causes.clear, enabled := 0, link := .idle, gate := .opened, sdOut := none, pending := [] }

/-- Why a step stops with a fault. -/
inductive Fault where
  /-- Raised by `execLoadCells` alone, for a LOAD CELLS of 64 or more words: its payload length 2 + 4n does not fit the
  length byte of a frame (R156), so no frame on the link carries that command. Safe: the part has no such event, and the
  model stops. -/
  | noSuchFrame
  deriving DecidableEq, Repr

/-- Why a step refuses a command. -/
inductive Refusal where
  /-- The command has no meaning in the model yet. No arm of `exec` raises it. Safe: the model stops. -/
  | notModelled (mnemonic : String)
  deriving DecidableEq, Repr

/-- What a step answers. -/
abbrev Out := Host.Outcome State Fault Refusal

end Sys2Proof.Machine
end

