-- ==== Sys2Proof/Machine/ListMemory.lean ====
section
/-! DEFINITION. List memory (R121): the cells 0..511 as the list of those that differ from the power-on cell of R136, in
strictly rising order. -/

namespace Sys2Proof.Machine

/-- A cell's contents; a cell not listed holds what power-on reset gives it (R136). -/
def readCell : List (Nat × Cell) → Nat → Cell
  | [], _ => Cell.blank
  | (m, d) :: rest, n => if m = n then d else readCell rest n

/-- Overwrites one cell, keeping the canonical form: a cell that becomes blank is not listed. -/
def writeCell : List (Nat × Cell) → Nat → Cell → List (Nat × Cell)
  | [], n, c => if c = Cell.blank then [] else [(n, c)]
  | (m, d) :: rest, n, c =>
    if n < m then (if c = Cell.blank then (m, d) :: rest else (n, c) :: (m, d) :: rest)
    else if n = m then (if c = Cell.blank then rest else (n, c) :: rest)
    else (m, d) :: writeCell rest n c

/-- Writes a run of data words to consecutive cells, with empty lane set, master 0 and offset 0 (R122). -/
def writeRun : List (Nat × Cell) → Nat → List Word → List (Nat × Cell)
  | cells, _, [] => cells
  | cells, start, w :: ws =>
    writeRun (writeCell cells start { data := w, lanes := 0, master := 0, offset := 0 }) (start + 1) ws

/-- Every listed address is at least `lo`, rising strictly and below 512, and no listed cell is blank. -/
def cellsWfFrom : Nat → List (Nat × Cell) → Bool
  | _, [] => true
  | lo, (n, c) :: rest =>
    decide (lo ≤ n) && decide (n < 512) && decide (c ≠ Cell.blank) && cellsWfFrom (n + 1) rest

/-- The canonical form of list memory. -/
def cellsWf (cells : List (Nat × Cell)) : Bool := cellsWfFrom 0 cells

end Sys2Proof.Machine
end

