-- ==== Sys2Proof/Config.lean ====
section
/-! DEFINITION. What the part fixes: its identity, its capacities and its fixed times. -/

namespace Sys2Proof.Config

/-- Part code returned by IDENTIFY (R172). -/
def partCode : Half := 0x6140

/-- Revision returned by IDENTIFY (R172). -/
def revision : Nat := 1

/-- Windows, numbered 0..23 (R23, R172). -/
def windows : Nat := 24

/-- Hold slots (R40, R172). -/
def holdSlots : Nat := 16

/-- Places on the blocked list (R63, R172). -/
def blockedPlaces : Nat := 8

/-- Transit entries (R3, R172). -/
def transitEntries : Nat := 32

/-- Service contexts (R85, R172). -/
def contexts : Nat := 4

/-- Service classes (R78, R172). -/
def classes : Nat := 6

/-- Cells of list memory (R121, R172). -/
def cells : Nat := 512

/-- Lists (R123, R172). -/
def lists : Nat := 8

/-- Largest payload length of a frame (R156). -/
def maxPayload : Nat := 80

/-- Gap timer, in ticks of the 1 µs timebase (R159). -/
def gapTicks : Nat := 1000

/-- Quiesce timer, in ticks of the 1 µs timebase (R167). -/
def quiesceTicks : Nat := 10000

/-- The saturation value of an attention cause's occurrence count (R141). -/
def maxOccurrences : Nat := 255

end Sys2Proof.Config
end

