-- ==== Sys2Proof/Machine/Codes.lean ====
section
/-! DEFINITION. Byte order, the check byte and the codes of every enumeration in a response payload (chapter 10). -/

namespace Sys2Proof.Machine

/-- A number as one byte (R174). -/
def byteOf (n : Nat) : Byte := BitVec.ofNat 8 n

/-- A two-byte field, most significant byte first (R174). -/
def bytesOfHalf (h : Half) : List Byte := [h.extractLsb' 8 8, h.extractLsb' 0 8]

/-- A four-byte field, most significant byte first (R174). -/
def bytesOfWord (w : Word) : List Byte :=
  [w.extractLsb' 24 8, w.extractLsb' 16 8, w.extractLsb' 8 8, w.extractLsb' 0 8]

/-- The two-byte field whose bytes are received in this order (R174). -/
def halfOfBytes (b1 b0 : Byte) : Half := b1 ++ b0

/-- The four-byte field whose bytes are received in this order (R174). -/
def wordOfBytes (b3 b2 b1 b0 : Byte) : Word := b3 ++ b2 ++ b1 ++ b0

/-- The sum of bytes modulo 256 (R156). -/
def bytesSum (bs : List Byte) : Byte := bs.foldl (· + ·) 0

/-- The byte that brings a frame's sum to 0 modulo 256 (R156). -/
def checkByte (body : List Byte) : Byte := 0 - bytesSum body

/-- The 32-bit byte address of a word: bits 31..2 as carried, bits 1..0 zero (R1). -/
def byteAddr (a : WordAddr) : Word := a ++ (0#2)

/-- Bits 31..5 of an address, the line it lies on (R1). -/
def lineOf (a : WordAddr) : BitVec 27 := a.extractLsb' 3 27

/-- The kind of an access (R1). -/
def kindOf : Access → Kind
  | .read => .read
  | .write _ => .write

/-- A word address on the wire (R179, R181). -/
def bytesOfAddr (a : WordAddr) : List Byte := bytesOfWord (byteAddr a)

/-- 00h READ, 01h WRITE (R179). -/
def kindCode : Kind → Byte
  | .read => 0x00
  | .write => 0x01

/-- 00h TRAP window, 01h list fallback (R179). -/
def howCode : HowHeld → Byte
  | .trapWindow => 0x00
  | .listFallback => 0x01

/-- 00h RELEASE, 01h REFUSE, 02h FILL (R177). -/
def deadlineActionCode : DeadlineAction → Byte
  | .release => 0x00
  | .refuse => 0x01
  | .fill => 0x02

/-- An absent window, list or context is FFh (R174). -/
def codeOrNone {n : Nat} : Option (Fin n) → Byte
  | some i => byteOf i.val
  | none => 0xFF

/-- A capture list's id, or FFh: capture lists are numbered from 4 (R123, R177). -/
def writeListCode : Option ListOrdinal → Byte
  | some l => byteOf (4 + l.val)
  | none => 0xFF

/-- Filter in bits 2..1 of the control byte: 0 BOTH, 1 READS, 2 WRITES (R177). -/
def filterCode : Filter → BitVec 2
  | .both => 0
  | .reads => 1
  | .writes => 2

/-- Action in bits 4..3 of the control byte: 0 PASS, 1 TRAP, 2 REFUSE, 3 LIST (R177). -/
def actionCode : WindowAction → BitVec 2
  | .pass => 0
  | .trap => 1
  | .refuse => 2
  | .list => 3

/-- One bit. -/
def bit (b : Bool) : BitVec 1 := BitVec.ofBool b

/-- The control byte of a window (R177). -/
def windowControl (w : Window) : Byte := (0#3) ++ actionCode w.action ++ filterCode w.filter ++ bit w.valid

/-- 00h FIXED, 01h ROTATING (R178). -/
def orderCode : OrderMode → Byte
  | .fixed => 0x00
  | .rotating => 0x01

/-- 00h NESTED, 01h FLAT (R178). -/
def nestingCode : NestingMode → Byte
  | .nested => 0x00
  | .flat => 0x01

/-- 00h for off, disabled, clear; 01h for on, enabled, set (R177, R178, R181). -/
def flagCode (b : Bool) : Byte := if b then 0x01 else 0x00

/-- Exhaustion action in bits 1..0 of the list control byte: 0 PASS, 1 TRAP, 2 REFUSE (R180). -/
def exhaustionCode : Exhaustion → BitVec 2
  | .pass => 0
  | .trap => 1
  | .refuse => 2

/-- The list control byte: reload in bit 2 (R180). -/
def listControl (e : Exhaustion) (reload : Bool) : Byte := (0#5) ++ bit reload ++ exhaustionCode e

/-- 00h IDLE, 01h ARMED, 02h EXHAUSTED (R180). -/
def answerStateCode : AnswerState → Byte
  | .idle => 0x00
  | .armed => 0x01
  | .exhausted => 0x02

/-- 00h IDLE, 01h ARMED, 02h FULL (R180). -/
def captureStateCode : CaptureState → Byte
  | .idle => 0x00
  | .armed => 0x01
  | .full => 0x02

/-- 00h gap, 01h overlong, 02h write while busy (R181). -/
def linkFaultCode : LinkFaultKind → Byte
  | .gap => 0x00
  | .overlong => 0x01
  | .writeWhileBusy => 0x02

/-- 00h window, 01h list (R181). -/
def refusalSourceCode : RefusalSource → Byte
  | .window => 0x00
  | .list => 0x01

/-- 00h open, 01h closed (R182). -/
def gateCode : Gate → Byte
  | .opened => 0x00
  | .closed => 0x01

/-- The link state in bits 2..0 of the link status byte (R183). -/
def linkStateCode : LinkState → BitVec 3
  | .idle => 0
  | .receiving _ _ => 1
  | .discarding _ => 2
  | .executing _ _ => 3
  | .responding _ _ _ => 4

/-- Response statuses (R175). -/
inductive Status where
  | ok
  | adjusted
  | none
  | noContext
  | stale
  | wrongKind
  | badParam
  | busy
  | overlap
  | checkFail
  | unknownOp
  | badLength
  | timeout
  deriving DecidableEq, Repr

/-- Status codes (R175). -/
def statusCode : Status → Byte
  | .ok => 0x00
  | .adjusted => 0x01
  | .none => 0x02
  | .noContext => 0x03
  | .stale => 0x10
  | .wrongKind => 0x11
  | .badParam => 0x12
  | .busy => 0x13
  | .overlap => 0x14
  | .checkFail => 0x20
  | .unknownOp => 0x21
  | .badLength => 0x22
  | .timeout => 0x30

/-- What a command answers: its status and its response payload (R156). -/
structure Reply where
  status  : Status
  payload : List Byte
  deriving DecidableEq, Repr

/-- OK with a payload. -/
def replyOk (payload : List Byte) : Reply := { status := .ok, payload := payload }

/-- A status alone; a response of any status other than OK or ADJUSTED has no payload (R156, R176). -/
def replyOnly (st : Status) : Reply := { status := st, payload := [] }

/-- A body of a frame followed by its check byte (R156). -/
def sealFrame (body : List Byte) : List Byte := body ++ [checkByte body]

/-- The response frame: status, length, payload, check byte (R156, R175). -/
def responseFrame (r : Reply) : List Byte :=
  sealFrame (statusCode r.status :: byteOf r.payload.length :: r.payload)

end Sys2Proof.Machine
end

