-- ==== Sys2Proof/Machine/Ops.lean ====
section
/-! DEFINITION. The named operations over the transit table, its ordered collections, the hold pool, the contexts, the
attention records and the link, which the meanings of the commands are made of. -/

namespace Sys2Proof.Machine

/-! ## Transit table -/

/-- The entry at a transit index; `none` is FREE (R2). -/
def State.entry (s : State) (i : TransitIndex) : Option Entry := s.entries[i]

/-- Writes one place of the transit table. -/
def State.setEntry (s : State) (i : TransitIndex) (e : Option Entry) : State :=
  { s with entries := s.entries.set i e }

/-- Changes the route state of an entry in use. -/
def State.setRoute (s : State) (i : TransitIndex) (r : Route) : State :=
  s.setEntry i ((s.entry i).map fun e => { e with route := r })

/-- The route state of an entry is this one (false of a FREE entry). -/
def State.routeIs (s : State) (i : TransitIndex) (r : Route) : Bool :=
  match s.entry i with
  | some e => decide (e.route = r)
  | none => false

/-- The lowest-numbered FREE entry (R3). -/
def State.lowestFree (s : State) : Option TransitIndex :=
  (List.finRange 32).find? fun i => (s.entry i).isNone

/-- The number of in-use entries with a property of their route state. -/
def State.countRoute (s : State) (p : Route → Bool) : Nat :=
  s.entries.toList.countP fun e => match e with
    | some e => p e.route
    | none => false

/-- The number of FREE entries. -/
def State.countFree (s : State) : Nat := s.entries.toList.countP Option.isNone

/-- DONE, whatever its response. -/
def Route.isDone : Route → Bool
  | .done _ => true
  | _ => false

/-- HELD or BLOCKED, the route states that line-block (R62). -/
def Route.blocksLine : Route → Bool
  | .held => true
  | .blocked => true
  | _ => false

/-- ISSUE_WAIT, IN_MEMORY or ORPHAN: a forwarded entry, which QUIESCE waits for (R167). -/
def Route.isForwarded : Route → Bool
  | .issueWait => true
  | .inMemory => true
  | .orphan => true
  | _ => false

/-- Some in-use entry has this property. -/
def State.anyEntry (s : State) (p : Entry → Bool) : Bool :=
  s.entries.toList.any fun e => match e with
    | some e => p e
    | none => false

/-- The request's (master, tag) equals that of an in-use entry other than an ORPHAN (R9). -/
def State.clashes (s : State) (r : Request) : Bool :=
  s.anyEntry fun e => decide (e.route ≠ .orphan) && decide (e.req.master = r.master) && decide (e.req.tag = r.tag)

/-- An in-use entry of the request's master on its line is HELD or BLOCKED (R62). -/
def State.lineBlocked (s : State) (r : Request) : Bool :=
  s.anyEntry fun e =>
    e.route.blocksLine && decide (e.req.master = r.master) && decide (lineOf e.req.addr = lineOf r.addr)

/-- The entry becomes ISSUE_WAIT and joins the tail of the issue queue (R13). -/
def State.forward (s : State) (i : TransitIndex) : State :=
  { s.setRoute i .issueWait with issueQ := s.issueQ ++ [i] }

/-- The entry becomes DONE with this response and joins the tail of the response queue (R16). -/
def State.complete (s : State) (i : TransitIndex) (r : Response) : State :=
  { s.setRoute i (.done r) with respQ := s.respQ ++ [i] }

/-- The response status OK for an access: a READ keeps the word given, a WRITE no data (R2, R108, R109). -/
def okResponse : Access → Word → Response
  | .read, w => .okWord w
  | .write _, _ => .ok

/-! ## Hold pool -/

/-- The duration of a deadline code: none for 0, 2^(k+1) µs for k from 1 to 15 (R48). -/
def deadlineTicks (code : Nat) : Option Nat := if code = 0 then none else some (2 ^ (code + 1))

/-- The expiry time of a deadline started now, or none (R43, R44, R50). -/
def deadlineFrom (now code : Nat) : Option Nat := (deadlineTicks code).map fun d => now + d

/-- Entry into the pool, at acceptance or by inheritance: HELD, with a WAITING record at the tail of the hold-arrival order
whose deadline starts now from the entry's own code (R43, R44). -/
def State.hold (s : State) (i : TransitIndex) (how : HowHeld) (code : Nat) : State :=
  { s.setRoute i .held with
    pool := s.pool ++
      [{ entry := i, heldSince := s.now, deadline := deadlineFrom s.now code, how := how, context := none }] }

/-- The slot record of an entry (R41). -/
def State.slotOf (s : State) (i : TransitIndex) : Option Slot := s.pool.find? fun sl => decide (sl.entry = i)

/-- Removes an entry's slot record from the pool and from the hold-arrival order, with its deadline (R52 step 1). -/
def State.dropSlot (s : State) (i : TransitIndex) : State :=
  { s with pool := s.pool.filter fun sl => decide (sl.entry ≠ i) }

/-- Rewrites an entry's slot record in its place. -/
def State.updateSlot (s : State) (i : TransitIndex) (f : Slot → Slot) : State :=
  { s with pool := s.pool.map fun sl => if sl.entry = i then f sl else sl }

/-! ## Service contexts -/

/-- The opening of a context; `none` is FREE (R85). -/
def State.context (s : State) (c : ContextIndex) : Option OpenContext := s.contexts[c]

/-- Writes one context. -/
def State.setContext (s : State) (c : ContextIndex) (o : Option OpenContext) : State :=
  { s with contexts := s.contexts.set c o }

/-- The lowest-numbered FREE context (R87). -/
def State.lowestFreeContext (s : State) : Option ContextIndex :=
  (List.finRange 4).find? fun c => (s.context c).isNone

/-- The OPEN contexts in ascending number (R97). -/
def State.openContexts (s : State) : List (ContextIndex × OpenContext) :=
  (List.finRange 4).filterMap fun c => (s.context c).map fun o => (c, o)

/-- The close of a context: FREE, and in ROTATING mode the floor moves to the class it held (R81, R90). -/
def State.closeContext (s : State) (c : ContextIndex) : State :=
  match s.context c with
  | none => s
  | some o =>
    match s.arb.order with
    | .fixed => s.setContext c none
    | .rotating => { s.setContext c none with arb := { s.arb with floor := o.cls } }

/-! ## Attention -/

/-- One posting to a cause record (R141). -/
def post {α : Type} (r : Option (CauseRecord α)) (d : α) : Option (CauseRecord α) :=
  match r with
  | none => some { occurrences := 1, detail := d }
  | some rec =>
    if rec.occurrences < Config.maxOccurrences then some { rec with occurrences := rec.occurrences + 1 } else some rec

/-- Posts DEADLINE (R143). -/
def State.postDeadline (s : State) (d : DeadlineDetail) : State :=
  { s with causes := { s.causes with deadline := post s.causes.deadline d } }

/-- Posts HOLD_FULL (R143). -/
def State.postHoldFull (s : State) (d : HoldFullDetail) : State :=
  { s with causes := { s.causes with holdFull := post s.causes.holdFull d } }

/-- Posts BLOCK_FULL (R143). -/
def State.postBlockFull (s : State) (d : BlockFullDetail) : State :=
  { s with causes := { s.causes with blockFull := post s.causes.blockFull d } }

/-- Posts ANSWER_OUT (R144). -/
def State.postAnswerOut (s : State) (l : ListOrdinal) : State :=
  { s with causes := { s.causes with answerOut := post s.causes.answerOut l } }

/-- Posts CAPTURE_FULL (R144). -/
def State.postCaptureFull (s : State) (l : ListOrdinal) : State :=
  { s with causes := { s.causes with captureFull := post s.causes.captureFull l } }

/-- Posts REFUSAL (R144). -/
def State.postRefusal (s : State) (d : RefusalDetail) : State :=
  { s with causes := { s.causes with refusal := post s.causes.refusal d } }

/-- Posts MEMORY_ERROR (R145). -/
def State.postMemoryError (s : State) (d : MemoryErrorDetail) : State :=
  { s with causes := { s.causes with memoryError := post s.causes.memoryError d } }

/-- Posts TAG_CLASH (R145). -/
def State.postTagClash (s : State) (d : TagClashDetail) : State :=
  { s with causes := { s.causes with tagClash := post s.causes.tagClash d } }

/-- Posts LINK_FAULT (R146). -/
def State.postLinkFault (s : State) (d : LinkFaultDetail) : State :=
  { s with causes := { s.causes with linkFault := post s.causes.linkFault d } }

/-- Posts HOST_RESET (R147). -/
def State.postHostReset (s : State) (d : HostResetDetail) : State :=
  { s with causes := { s.causes with hostReset := post s.causes.hostReset d } }

/-! ## Link -/

/-- The link becomes RESPONDING with this response, unread, and a command record of length L; the records and timers of the
state it leaves end (R155, R160, R161). -/
def State.answerWith (s : State) (length : Nat) (r : Reply) : State :=
  { s with link := .responding length (responseFrame r) 0 }

end Sys2Proof.Machine
end

