-- ==== Sys2Proof/Machine/Matching.lean ====
section
/-! DEFINITION. Matching, selection, the decision snapshot and the hit counters (R24 to R30, R129). -/

namespace Sys2Proof.Machine

/-- The filter allows the kind (R25). -/
def Filter.allows : Filter → Kind → Bool
  | .both, _ => true
  | .reads, .read => true
  | .reads, .write => false
  | .writes, .write => true
  | .writes, .read => false

/-- The address lies in base .. base + 2^e − 1, the sum formed without wrapping (R24). -/
def Window.covers (w : Window) (a : WordAddr) : Bool :=
  decide (w.base.toNat ≤ (byteAddr a).toNat) && decide ((byteAddr a).toNat < w.base.toNat + 2 ^ w.exponent.val)

/-- The window matches the request (R25). -/
def Window.matchesRequest (w : Window) (r : Request) : Bool :=
  w.valid && w.covers r.addr && w.filter.allows (kindOf r.access) && w.masters.getLsbD r.master.val

/-- The selected window: the lowest-numbered that matches (R26). -/
def State.selectWindow (s : State) (r : Request) : Option WindowIndex :=
  (List.finRange 24).find? fun i => s.windows[i].matchesRequest r

/-- The decision a window gives (R28). -/
def Window.decision (w : Window) (i : WindowIndex) : Decision :=
  { window := some i, action := w.action, cls := w.cls, deadlineCode := w.deadlineCode,
    deadlineAction := w.deadlineAction, fill := w.fill, readList := w.readList, writeList := w.writeList }

/-- The decision the window table gives a request as it stands (R26, R28). -/
def State.decisionFor (s : State) (r : Request) : Decision :=
  match s.selectWindow r with
  | some i => s.windows[i].decision i
  | none => Decision.unmatched

/-- The word offset of an address within a window: address minus base, divided by 4 (R129). -/
def Window.wordOffset (w : Window) (a : WordAddr) : BitVec 10 := ((byteAddr a - w.base) >>> 2).setWidth 10

/-- The word offset recorded at acceptance: present when the selected window's action is LIST (R2, R129). -/
def State.offsetFor (s : State) (r : Request) : Option (BitVec 10) :=
  match s.selectWindow r with
  | some i => if s.windows[i].action = .list then some (s.windows[i].wordOffset r.addr) else none
  | none => none

/-- One count of a saturating hit counter (R30). -/
def countHit (h : BitVec 16) : BitVec 16 := if h = 0xFFFF then h else h + 1

/-- The selected window's hit counter counts the request (R30). -/
def State.countHitFor (s : State) (r : Request) : State :=
  match s.selectWindow r with
  | some i => { s with windows := s.windows.set i { s.windows[i] with hits := countHit s.windows[i].hits } }
  | none => s

end Sys2Proof.Machine
end

