-- ==== Sys2Proof/Machine/Service.lean ====
section
/-! DEFINITION. Carrying out a decision (R8) with list service (R129 to R133), the unblocking walk (R69) and the departure
of a held entry (R52). -/

namespace Sys2Proof.Machine

/-- An answer list after giving one word (R130). -/
def AnswerList.advance (a : AnswerList) : AnswerList :=
  if a.remaining ≤ 1 then
    if a.reload then { a with position := a.first, remaining := a.length }
    else { a with state := .exhausted, position := a.position + 1, remaining := 0 }
  else { a with position := a.position + 1, remaining := a.remaining - 1 }

/-- The cell after the newest record of a capture list, wrapping within its area (R131). -/
def CaptureList.nextCell (c : CaptureList) : Nat := c.first + (c.head + c.count) % c.length

/-- A capture list after one record (R131). -/
def CaptureList.advance (c : CaptureList) : CaptureList :=
  if c.count + 1 = c.length then { c with state := .full, count := c.count + 1 } else { c with count := c.count + 1 }

/-- The capture record of a WRITE (R131). -/
def captureRecord (e : Entry) (data : Word) : Cell :=
  { data := data, lanes := e.req.lanes, master := e.req.master, offset := e.offset.getD 0 }

/-- The detail of a REFUSAL of this entry under this decision (R144). -/
def refusalDetail (e : Entry) (d : Decision) (source : RefusalSource) : RefusalDetail :=
  { window := d.window, master := e.req.master, addr := e.req.addr, kind := kindOf e.req.access, source := source }

/-- The refusal of an entry by a window's action or a list's exhaustion action: DONE with ERROR, and REFUSAL is posted
(R8, R133). -/
def State.refuseEntry (s : State) (i : TransitIndex) (e : Entry) (d : Decision) (source : RefusalSource) : State :=
  (s.complete i .error).postRefusal (refusalDetail e d source)

/-- A request meets a list's exhaustion action; the list does not change (R133). -/
def State.exhaust (s : State) (i : TransitIndex) (e : Entry) (d : Decision) (x : Exhaustion) : State :=
  match x with
  | .pass => s.forward i
  | .trap => s.hold i .listFallback d.deadlineCode.val
  | .refuse => s.refuseEntry i e d .list

/-- A READ served by an answer list (R130, R133). -/
def State.serveRead (s : State) (i : TransitIndex) (e : Entry) (d : Decision) (l : ListOrdinal) : State :=
  let a := s.answerLists[l]
  match a.state with
  | .armed =>
    let served := ({ s with answerLists := s.answerLists.set l a.advance }).complete i
      (.okWord (readCell s.cells a.position).data)
    if a.advance.state = .exhausted then served.postAnswerOut l else served
  | .idle => s.exhaust i e d a.exhaustion
  | .exhausted => s.exhaust i e d a.exhaustion

/-- A WRITE served by a capture list (R131, R133). -/
def State.serveWrite (s : State) (i : TransitIndex) (e : Entry) (d : Decision) (l : ListOrdinal) (data : Word) : State :=
  let c := s.captureLists[l]
  match c.state with
  | .armed =>
    let served := ({ s with
      cells := writeCell s.cells c.nextCell (captureRecord e data)
      captureLists := s.captureLists.set l c.advance }).complete i .ok
    if c.advance.state = .full then served.postCaptureFull l else served
  | .idle => s.exhaust i e d c.exhaustion
  | .full => s.exhaust i e d c.exhaustion

/-- Service of a request decided LIST; with no list for its kind it is forwarded (R8, R129). -/
def State.serve (s : State) (i : TransitIndex) (e : Entry) (d : Decision) : State :=
  match e.req.access with
  | .read =>
    match d.readList with
    | none => s.forward i
    | some l => s.serveRead i e d l
  | .write data =>
    match d.writeList with
    | none => s.forward i
    | some l => s.serveWrite i e d l data

/-- Carrying out the recorded decision of an entry, at acceptance or at unblocking (R8, R70). An entry without a decision
is never carried out (R9). -/
def State.carryOut (s : State) (i : TransitIndex) : State :=
  match s.entry i with
  | none => s
  | some e =>
    match e.decision with
    | none => s
    | some d =>
      match d.action with
      | .pass => s.forward i
      | .refuse => s.refuseEntry i e d .window
      | .trap => s.hold i .trapWindow d.deadlineCode.val
      | .list => s.serve i e d

/-- The BLOCKED entries of a master on a line, in acceptance order (R64, R69). -/
def State.chain (s : State) (m : Master) (line : BitVec 27) : List TransitIndex :=
  s.blocked.filter fun i => match s.entry i with
    | some e => decide (e.req.master = m) && decide (lineOf e.req.addr = line)
    | none => false

/-- The unblocking walk over a chain's BLOCKED entries: each in turn leaves the blocked list and carries out its recorded
decision; the first that becomes HELD ends the walk (R69). -/
def State.walk (s : State) : List TransitIndex → State
  | [] => s
  | i :: rest =>
    let s' := ({ s with blocked := s.blocked.filter fun j => decide (j ≠ i) }).carryOut i
    if s'.routeIs i .held then s' else State.walk s' rest

/-- Where a departing entry goes (R52 step 2). -/
inductive Departure where
  | issue
  | done (r : Response)
  deriving DecidableEq, Repr

/-- The next route state of a departing entry, and the queue it joins (R52 step 2). -/
def State.routeDeparture (s : State) (i : TransitIndex) : Departure → State
  | .issue => s.forward i
  | .done r => s.complete i r

/-- The close of the departing entry's context, if it was TAKEN (R52 step 3). -/
def State.closeSlotContext (s : State) (sl : Slot) : State :=
  match sl.context with
  | some c => s.closeContext c
  | none => s

/-- The departure of a held entry, its five steps as one event (R52). A successor that becomes HELD during the walk takes
the capacity the departing record left (R44), so no slot is free in between. -/
def State.depart (s : State) (sl : Slot) (e : Entry) (dest : Departure) : State :=
  let left := ((s.dropSlot sl.entry).routeDeparture sl.entry dest).closeSlotContext sl
  left.walk (left.chain e.req.master (lineOf e.req.addr))

end Sys2Proof.Machine
end

