-- ==== Sys2Proof/Machine/Flags.lean ====
section
/-! DEFINITION. Every level and reason that the part derives from its state: the prospective outcome (R6), acceptability
(R5), the stall reason (R10), urgency and eligibility (R79, R83), NOTIFY (R92), ATTN (R148), the sets of causes (R181) and
the link status byte (R165). -/

namespace Sys2Proof.Machine

/-- What acceptance would find for the head request (R6). -/
inductive Prospect where
  | clash
  | blocked
  | hold
  | direct
  deriving DecidableEq, Repr

/-- The list unit, as it stands, would apply exhaustion action TRAP to the request under this decision (R6). -/
def State.fallsBack (s : State) (r : Request) (d : Decision) : Bool :=
  match r.access with
  | .read =>
    match d.readList with
    | none => false
    | some l => decide (s.answerLists[l].state ≠ .armed) && decide (s.answerLists[l].exhaustion = .trap)
  | .write _ =>
    match d.writeList with
    | none => false
    | some l => decide (s.captureLists[l].state ≠ .armed) && decide (s.captureLists[l].exhaustion = .trap)

/-- The decision, carried out now, is a hold (R6). -/
def State.wouldHold (s : State) (r : Request) (d : Decision) : Bool :=
  match d.action with
  | .trap => true
  | .list => s.fallsBack r d
  | .pass => false
  | .refuse => false

/-- The prospective outcome of a request (R6). -/
def State.prospect (s : State) (r : Request) : Prospect :=
  if s.clashes r then .clash
  else if s.lineBlocked r then .blocked
  else if s.wouldHold r (s.decisionFor r) then .hold
  else .direct

/-- Stall reasons (R10). -/
inductive StallReason where
  | none
  | gate
  | transit
  | hold
  | block
  deriving DecidableEq, Repr

/-- The first condition of R5 that fails for a request, in the order of R10; `none` when all four hold. -/
def State.obstacle (s : State) (r : Request) : StallReason :=
  if s.gate = .closed then .gate
  else if s.lowestFree.isNone then .transit
  else if s.prospect r = .blocked ∧ Config.blockedPlaces ≤ s.blocked.length then .block
  else if s.prospect r = .hold ∧ Config.holdSlots ≤ s.pool.length then .hold
  else .none

/-- The H-port works: neither reset input is asserted (R19, R22, R185). -/
def State.hportLive (s : State) : Bool := !s.preset && !s.hreset

/-- The H-port's stall reason (R10, R19). -/
def State.stallReason (s : State) : StallReason :=
  match s.head with
  | some r => if s.hportLive then s.obstacle r else .none
  | none => .none

/-- 00h none, 01h gate, 02h transit, 03h hold, 04h block (R182). -/
def stallCode : StallReason → Byte
  | .none => 0x00
  | .gate => 0x01
  | .transit => 0x02
  | .hold => 0x03
  | .block => 0x04

/-- The head request that the H-port may accept now (R5). -/
def State.acceptable (s : State) : Option Request :=
  match s.head with
  | some r => if s.hportLive ∧ s.obstacle r = .none then some r else none
  | none => none

/-- Some entry is forwarded: ISSUE_WAIT, IN_MEMORY or ORPHAN (R167). -/
def State.anyForwarded (s : State) : Bool := s.anyEntry fun e => e.route.isForwarded

/-- The rank of a class under a floor, 1 the most urgent to 6 the least (R79). -/
def rank (floor c : ServiceClass) : Nat := (c.val + 5 - floor.val) % 6 + 1

/-- The class of a held entry, from its decision snapshot (R78). -/
def State.classOf (s : State) (i : TransitIndex) : Option ServiceClass :=
  (s.entry i).bind fun e => e.decision.map Decision.cls

/-- The nesting mode's condition on a class (R83). -/
def State.nestingAllows (s : State) (c : ServiceClass) : Bool :=
  match s.arb.nesting with
  | .flat => true
  | .nested => s.openContexts.all fun o => decide (rank s.arb.floor c < rank s.arb.floor o.2.cls)

/-- The class may be selected: not suppressed, and the nesting mode's condition holds (R83). -/
def State.classEligible (s : State) (c : ServiceClass) : Bool := !s.arb.suppressed.getLsbD c.val && s.nestingAllows c

/-- The eligible WAITING records with their classes, in hold-arrival order (R45, R83). -/
def State.eligible (s : State) : List (Slot × ServiceClass) :=
  s.pool.filterMap fun sl =>
    match sl.context, s.classOf sl.entry with
    | none, some c => if s.classEligible c then some (sl, c) else none
    | _, _ => none

/-- NOTIFY (R92). -/
def State.notify (s : State) : Bool :=
  s.arb.notifyOn && s.lowestFreeContext.isSome && !s.eligible.isEmpty

/-- The set of causes whose flags are set, bit n for cause n (R140, R181). -/
def Causes.setBits (c : Causes) : BitVec 10 :=
  bit c.hostReset.isSome ++ bit c.linkFault.isSome ++ bit c.tagClash.isSome ++ bit c.memoryError.isSome ++
  bit c.refusal.isSome ++ bit c.captureFull.isSome ++ bit c.answerOut.isSome ++ bit c.blockFull.isSome ++
  bit c.holdFull.isSome ++ bit c.deadline.isSome

/-- ATTN (R148). -/
def State.attn (s : State) : Bool := decide (s.causes.setBits &&& s.enabled ≠ 0)

/-- The link status byte that a status read returns (R165, R183). -/
def State.linkStatusByte (s : State) : Byte :=
  (0#1) ++ bit (decide (s.stallReason ≠ .none)) ++ bit (decide (s.gate = .closed)) ++ bit s.attn ++ bit s.notify ++
  linkStateCode s.link

/-- What a status read returns, in any state of the link, changing nothing (R165); while PRESET# is asserted a read is not
answered (R154). -/
def State.statusRead (s : State) : Option Byte := if s.preset then none else some s.linkStatusByte

/-- What the H-port presents to the host (R16): master, tag, status OK or not, and the data word. -/
structure Presented where
  master : Master
  tag    : Tag
  ok     : Bool
  data   : Word
  deriving DecidableEq, Repr

/-- The status and data word presented for a response (R16). -/
def presentedOf (q : Request) : Response → Presented
  | .okWord w => { master := q.master, tag := q.tag, ok := true, data := w }
  | .ok => { master := q.master, tag := q.tag, ok := true, data := 0 }
  | .error => { master := q.master, tag := q.tag, ok := false, data := 0 }

/-- The head of the response queue as the H-port presents it; none while a reset input is asserted (R16, R19, R22). -/
def State.presentedResponse (s : State) : Option Presented :=
  if s.hportLive then
    match s.respQ with
    | [] => none
    | i :: _ =>
      match s.entry i with
      | some e =>
        match e.route with
        | .done r => some (presentedOf e.req r)
        | _ => none
      | none => none
  else none

/-- The head of the issue queue as the M-port presents it: its transit index and its request; none while PRESET# is
asserted (R14, R22). -/
def State.presentedIssue (s : State) : Option (TransitIndex × Request) :=
  if s.preset then none
  else
    match s.issueQ with
    | [] => none
    | i :: _ => (s.entry i).map fun e => (i, e.req)

end Sys2Proof.Machine
end

