-- ==== Sys2Proof/Machine/Operands.lean ====
section
/-! DEFINITION. Every operand form of the framed commands: payload bytes read as numbers, sets and enumerations. `none` is
an undefined code or an out-of-range number, which the owning command answers BAD_PARAM (R174). -/

namespace Sys2Proof.Machine

/-- A number within the range below `n` (R174). -/
def finOf (n : Nat) (b : Nat) : Option (Fin n) := if h : b < n then some ⟨b, h⟩ else none

/-- A flag: 00h or 01h (R177, R178). -/
def flagOf (b : Byte) : Option Bool :=
  if b = 0x00 then some false else if b = 0x01 then some true else none

/-- Filter code of a window's control byte; code 3 is undefined (R177). -/
def filterOf (c : BitVec 2) : Option Filter :=
  if c = 0 then some .both else if c = 1 then some .reads else if c = 2 then some .writes else none

/-- Action code of a window's control byte (R177). -/
def actionOf (c : BitVec 2) : WindowAction :=
  if c = 0 then .pass else if c = 1 then .trap else if c = 2 then .refuse else .list

/-- Deadline action code (R177). -/
def deadlineActionOf (b : Byte) : Option DeadlineAction :=
  if b = 0x00 then some .release else if b = 0x01 then some .refuse else if b = 0x02 then some .fill else none

/-- A read list: 00h..03h, or FFh none (R177). The outer option is the validity of the code. -/
def readListOf (b : Byte) : Option (Option ListOrdinal) :=
  if b = 0xFF then some none else (finOf 4 b.toNat).map some

/-- A write list: 04h..07h, or FFh none (R177). -/
def writeListOf (b : Byte) : Option (Option ListOrdinal) :=
  if b = 0xFF then some none
  else if 4 ≤ b.toNat then (finOf 4 (b.toNat - 4)).map some else none

/-- A size exponent 2..31 (R23, R31). -/
def exponentOf (b : Byte) : Option (Fin 32) := if 2 ≤ b.toNat then finOf 32 b.toNat else none

/-- Order mode code (R178). -/
def orderOf (b : Byte) : Option OrderMode :=
  if b = 0x00 then some .fixed else if b = 0x01 then some .rotating else none

/-- Nesting mode code (R178). -/
def nestingOf (b : Byte) : Option NestingMode :=
  if b = 0x00 then some .nested else if b = 0x01 then some .flat else none

/-- A set of classes: bits 7..6 are zero (R178). -/
def classSetOf (b : Byte) : Option (BitVec 6) :=
  if b.extractLsb' 6 2 = 0 then some (b.extractLsb' 0 6) else none

/-- A set of lanes: bits 7..4 are zero (R179). -/
def laneSetOf (b : Byte) : Option Lanes :=
  if b.extractLsb' 4 4 = 0 then some (b.extractLsb' 0 4) else none

/-- A set of causes: bits 15..10 are zero (R181). -/
def causeSetOf (h : Half) : Option (BitVec 10) :=
  if h.extractLsb' 10 6 = 0 then some (h.extractLsb' 0 10) else none

/-- A list named by its id (R123). -/
inductive ListId where
  | answer (l : ListOrdinal)
  | capture (l : ListOrdinal)
  deriving DecidableEq, Repr

/-- A list id: 0..3 answer lists, 4..7 capture lists (R123). -/
def listIdOf (b : Byte) : Option ListId :=
  if b.toNat < 4 then (finOf 4 b.toNat).map ListId.answer else (finOf 4 (b.toNat - 4)).map ListId.capture

/-- The list control byte: exhaustion action in bits 1..0, reload in bit 2, bits 7..3 zero (R180). -/
def listControlOf (b : Byte) : Option (Exhaustion × Bool) :=
  if b.extractLsb' 3 5 = 0 then
    if b.extractLsb' 0 2 = 0 then some (.pass, b.getLsbD 2)
    else if b.extractLsb' 0 2 = 1 then some (.trap, b.getLsbD 2)
    else if b.extractLsb' 0 2 = 2 then some (.refuse, b.getLsbD 2)
    else none
  else none

/-- The area of a list: length 1..512 and first + length at most 512 (R125). -/
def areaOk (first length : Nat) : Bool :=
  decide (1 ≤ length) && decide (length ≤ 512) && decide (first + length ≤ 512)

/-- A base with its bits below the exponent cleared (R34). -/
def alignBase (base : Word) (e : Nat) : Word := (base >>> e) <<< e

/-- The fields of a WRITE WINDOW that passes every test of R31 but the index: the window as it is stored, with its base
adjusted (R34) and its hit counter 0 (R32). -/
def windowOf (w : WindowImage) : Option Window := do
  let exponent ← exponentOf w.exponent
  let filter ← filterOf (w.control.extractLsb' 1 2)
  let action := actionOf (w.control.extractLsb' 3 2)
  let cls ← finOf 6 w.cls.toNat
  let deadlineCode ← finOf 16 w.deadlineCode.toNat
  let deadlineAction ← deadlineActionOf w.deadlineAction
  let readList ← readListOf w.readList
  let writeList ← writeListOf w.writeList
  let sound := w.control.extractLsb' 5 3 = 0 ∧ ¬(action = .list ∧ 12 < exponent.val)
  (if sound then some
    { valid := w.control.getLsbD 0, base := alignBase w.base exponent.val, exponent := exponent, filter := filter,
      masters := w.masters, action := action, cls := cls, deadlineCode := deadlineCode,
      deadlineAction := deadlineAction, fill := w.fill, readList := readList, writeList := writeList, hits := 0 }
   else none)

/-- The five settings of a SET ARBITRATION that passes R94. -/
def arbitrationOf (order nesting floor suppressed notifyOn : Byte) : Option Arbitration := do
  let order ← orderOf order
  let nesting ← nestingOf nesting
  let floor ← finOf 6 floor.toNat
  let suppressed ← classSetOf suppressed
  let notifyOn ← flagOf notifyOn
  some { order := order, nesting := nesting, floor := floor, suppressed := suppressed, notifyOn := notifyOn }

end Sys2Proof.Machine
end

