-- ==== Sys2Proof/Machine/AttentionUnit.lean ====
section
/-! DEFINITION. What the attention commands do at the attention unit (R149 to R151, R181). -/

namespace Sys2Proof.Machine

/-- The record of one cause as READ ATTENTION returns it: flag, occurrences, and the detail bytes while set (R181). -/
structure CauseView where
  isSet       : Bool
  occurrences : Nat
  detail      : List Byte
  deriving DecidableEq, Repr

/-- The view of a record, given the layout of its detail (R149). -/
def viewOf {α : Type} (r : Option (CauseRecord α)) (layout : α → List Byte) : CauseView :=
  match r with
  | none => { isSet := false, occurrences := 0, detail := [] }
  | some rec => { isSet := true, occurrences := rec.occurrences, detail := layout rec.detail }

/-- Detail of DEADLINE, 9 bytes (R181). -/
def deadlineBytes (d : DeadlineDetail) : List Byte :=
  [codeOrNone d.window, byteOf d.cls.val, byteOf d.master.val] ++ bytesOfAddr d.addr ++
  [deadlineActionCode d.action, codeOrNone d.context]

/-- Detail of HOLD_FULL, 6 bytes (R181). -/
def holdFullBytes (d : HoldFullDetail) : List Byte :=
  [byteOf d.master.val] ++ bytesOfAddr d.addr ++ [codeOrNone d.window]

/-- Detail of BLOCK_FULL, 5 bytes (R181). -/
def blockFullBytes (d : BlockFullDetail) : List Byte := [byteOf d.master.val] ++ bytesOfAddr d.addr

/-- Detail of REFUSAL, 8 bytes (R181). -/
def refusalBytes (d : RefusalDetail) : List Byte :=
  [codeOrNone d.window, byteOf d.master.val] ++ bytesOfAddr d.addr ++ [kindCode d.kind, refusalSourceCode d.source]

/-- Detail of MEMORY_ERROR, 7 bytes (R181). -/
def memoryErrorBytes (d : MemoryErrorDetail) : List Byte :=
  [byteOf d.master.val, byteOf d.tag.val] ++ bytesOfAddr d.addr ++ [kindCode d.kind]

/-- Detail of TAG_CLASH, 2 bytes (R181). -/
def tagClashBytes (d : TagClashDetail) : List Byte := [byteOf d.master.val, byteOf d.tag.val]

/-- Detail of LINK_FAULT, 2 bytes (R181). -/
def linkFaultBytes (d : LinkFaultDetail) : List Byte := [linkFaultCode d.kind, byteOf d.bytes]

/-- Detail of HOST_RESET, 3 bytes (R181). -/
def hostResetBytes (d : HostResetDetail) : List Byte := [byteOf d.held, byteOf d.blocked, byteOf d.orphaned]

/-- The ten records in cause-number order: 0 DEADLINE to 9 HOST_RESET (R140). -/
def Causes.views (c : Causes) : List CauseView :=
  [viewOf c.deadline deadlineBytes, viewOf c.holdFull holdFullBytes, viewOf c.blockFull blockFullBytes,
    viewOf c.answerOut (fun l => [byteOf l.val]), viewOf c.captureFull (fun l => [byteOf (4 + l.val)]),
    viewOf c.refusal refusalBytes, viewOf c.memoryError memoryErrorBytes, viewOf c.tagClash tagClashBytes,
    viewOf c.linkFault linkFaultBytes, viewOf c.hostReset hostResetBytes]

/-- A set of causes on the wire: causes 9..8 in the first byte, 7..0 in the second (R181). -/
def causeSetBytes (b : BitVec 10) : List Byte := bytesOfHalf ((0#6) ++ b)

/-- READ ATTENTION (R149): BAD_PARAM for a cause above 9; or the record, the set causes and the enable set. -/
def cmdReadAttention (cause : Byte) (s : State) : State × Reply :=
  match s.causes.views[cause.toNat]? with
  | none => (s, replyOnly .badParam)
  | some v =>
    (s, replyOk ([cause, flagCode v.isSet, byteOf v.occurrences] ++ causeSetBytes s.causes.setBits ++
      causeSetBytes s.enabled ++ v.detail))

/-- A record cleared if it is named (R150). -/
def clearIf {α : Type} (named : Bool) (r : Option (CauseRecord α)) : Option (CauseRecord α) :=
  if named then none else r

/-- The records with the named causes clear (R150). -/
def Causes.clearSet (c : Causes) (b : BitVec 10) : Causes :=
  { deadline := clearIf (b.getLsbD 0) c.deadline, holdFull := clearIf (b.getLsbD 1) c.holdFull,
    blockFull := clearIf (b.getLsbD 2) c.blockFull, answerOut := clearIf (b.getLsbD 3) c.answerOut,
    captureFull := clearIf (b.getLsbD 4) c.captureFull, refusal := clearIf (b.getLsbD 5) c.refusal,
    memoryError := clearIf (b.getLsbD 6) c.memoryError, tagClash := clearIf (b.getLsbD 7) c.tagClash,
    linkFault := clearIf (b.getLsbD 8) c.linkFault, hostReset := clearIf (b.getLsbD 9) c.hostReset }

/-- The occurrences each named cause held, one byte per cause, 0 for a cause not named (R150, R181). -/
def clearedBytes (c : Causes) (b : BitVec 10) : List Byte :=
  c.views.zipIdx.map fun v => if b.getLsbD v.2 then byteOf v.1.occurrences else 0

/-- CLEAR ATTENTION (R150): BAD_PARAM for a set naming a cause above 9; or the named causes are cleared. -/
def cmdClearAttention (causes : Half) (s : State) : State × Reply :=
  match causeSetOf causes with
  | none => (s, replyOnly .badParam)
  | some b => ({ s with causes := s.causes.clearSet b }, replyOk (clearedBytes s.causes b))

/-- SET ATTENTION ENABLE (R151): BAD_PARAM; or the enable set is replaced and returned (R181). -/
def cmdSetAttentionEnable (causes : Half) (s : State) : State × Reply :=
  match causeSetOf causes with
  | none => (s, replyOnly .badParam)
  | some b => ({ s with enabled := b }, replyOk (causeSetBytes b))

end Sys2Proof.Machine
end

