-- ==== Sys2Proof/Machine/Settle.lean ====
section
/-! DEFINITION. What the end of an event may bring about: the start of a stall episode (R10, R11) and the completion of
QUIESCE (R168). -/

namespace Sys2Proof.Machine

/-- The counts of a completed QUIESCE: HELD, BLOCKED, DONE (R168, R182). -/
def State.quiesceReply (s : State) : Reply :=
  replyOk [byteOf (s.countRoute fun r => decide (r = .held)), byteOf (s.countRoute fun r => decide (r = .blocked)),
    byteOf (s.countRoute Route.isDone)]

/-- The link's test at the end of an event: while EXECUTING, QUIESCE completes when no entry is forwarded (R168). -/
def State.quiesceTest (s : State) : State :=
  match s.link with
  | .executing length _ => if s.anyForwarded then s else s.answerWith length s.quiesceReply
  | .idle => s
  | .receiving _ _ => s
  | .discarding _ => s
  | .responding _ _ _ => s

/-- The cause posted at the start of a stall episode, by its first reason (R11). -/
def State.postStall (s : State) (r : Request) (reason : StallReason) : State :=
  match reason with
  | .hold => s.postHoldFull { master := r.master, addr := r.addr, window := s.selectWindow r }
  | .block => s.postBlockFull { master := r.master, addr := r.addr }
  | .none => s
  | .gate => s
  | .transit => s

/-- A stall episode begins at the first moment at which the head request is not acceptable, and posts one cause by its
first reason; within an episode nothing more is posted (R10, R11). -/
def State.openEpisode (s : State) : State :=
  match s.head with
  | none => s
  | some r =>
    if s.episode then s
    else if s.stallReason = .none then s
    else { s.postStall r s.stallReason with episode := true }

/-- The end of an event that changes the route state of an entry: QUIESCE's test (R168), then the H-port's (R5, R10). -/
def State.settle (s : State) : State := s.quiesceTest.openEpisode

end Sys2Proof.Machine
end

