-- ==== Sys2Proof/Machine/Arbiter.lean ====
section
/-! DEFINITION. What SET ARBITRATION, READ ARBITRATION, TAKE and PEEK do at the service arbiter (R86 to R97). -/

namespace Sys2Proof.Machine

/-- SET ARBITRATION (R94 to R96): BAD_PARAM; BUSY for a change of nesting mode while a context is OPEN; or the five
settings are written as one event. -/
def cmdSetArbitration (order nesting floor suppressed notifyOn : Byte) (s : State) : State × Reply :=
  match arbitrationOf order nesting floor suppressed notifyOn with
  | none => (s, replyOnly .badParam)
  | some a =>
    if a.nesting ≠ s.arb.nesting ∧ s.openContexts ≠ [] then (s, replyOnly .busy)
    else ({ s with arb := a }, replyOnly .ok)

/-- The number of WAITING records of a class, suppressed or not (R45, R97). -/
def State.waitingCount (s : State) (c : ServiceClass) : Nat :=
  s.pool.countP fun sl => decide (sl.context = none) && decide (s.classOf sl.entry = some c)

/-- One OPEN context of READ ARBITRATION: context, ticket, class (R178). -/
def openContextBytes (o : ContextIndex × OpenContext) : List Byte :=
  [byteOf o.1.val] ++ bytesOfHalf o.2.ticket ++ [byteOf o.2.cls.val]

/-- The five settings as bytes (R178). -/
def arbitrationBytes (a : Arbitration) : List Byte :=
  [orderCode a.order, nestingCode a.nesting, byteOf a.floor.val, (0#2) ++ a.suppressed, flagCode a.notifyOn]

/-- READ ARBITRATION (R97, R178). -/
def cmdReadArbitration (s : State) : State × Reply :=
  (s, replyOk (arbitrationBytes s.arb ++ (List.finRange 6).map (fun c => byteOf (s.waitingCount c)) ++
    bytesOfHalf s.ticket ++ [byteOf s.openContexts.length] ++ s.openContexts.flatMap openContextBytes))

/-- µs held so far, saturating at 65,535 (R47). -/
def heldSoFar (now : Nat) (sl : Slot) : Half := BitVec.ofNat 16 (min (now - sl.heldSince) 65535)

/-- Deadline remaining, or FFFF_FFFFh for none; it reads 0 from the expiry time on (R47, R179). -/
def deadlineRemaining (now : Nat) (sl : Slot) : Word :=
  match sl.deadline with
  | some t => BitVec.ofNat 32 (t - now)
  | none => 0xFFFFFFFF

/-- The write data of a held record, for a WRITE (R179). -/
def writeDataBytes : Access → List Byte
  | .read => []
  | .write d => bytesOfWord d

/-- The held record of an OPEN context (R47, R87, R179). -/
def heldRecord (now : Nat) (c : ContextIndex) (o : OpenContext) (sl : Slot) (e : Entry) : List Byte :=
  [byteOf c.val] ++ bytesOfHalf o.ticket ++
  [byteOf o.cls.val, kindCode (kindOf e.req.access), howCode sl.how, codeOrNone (e.decision.bind Decision.window),
    byteOf e.req.master.val, byteOf e.req.tag.val, (0#4) ++ e.req.lanes] ++
  bytesOfAddr e.req.addr ++ bytesOfHalf (heldSoFar now sl) ++ bytesOfWord (deadlineRemaining now sl) ++
  writeDataBytes e.req.access

/-- The first of the records whose class has the least rank: the most urgent class, and in it the record oldest in the
hold-arrival order (R87 step 1). -/
def mostUrgent (floor : ServiceClass) : List (Slot × ServiceClass) → Option (Slot × ServiceClass)
  | [] => none
  | x :: rest =>
    match mostUrgent floor rest with
    | none => some x
    | some y => if rank floor y.2 < rank floor x.2 then some y else some x

/-- Opens a context on a WAITING record with the next ticket, and makes the record TAKEN (R46, R86, R87). -/
def State.openContext (s : State) (c : ContextIndex) (i : TransitIndex) (cls : ServiceClass) : State :=
  { (s.updateSlot i fun sl => { sl with context := some c }).setContext c
      (some { ticket := s.ticket + 1, entry := i, cls := cls }) with
    ticket := s.ticket + 1 }

/-- TAKE (R87, R88): NO_CONTEXT with four contexts OPEN; NONE with no eligible WAITING entry; or the held record of the
entry selected. -/
def cmdTake (s : State) : State × Reply :=
  match s.lowestFreeContext with
  | none => (s, replyOnly .noContext)
  | some c =>
    match mostUrgent s.arb.floor s.eligible with
    | none => (s, replyOnly .none)
    | some (sl, cls) =>
      match s.entry sl.entry with
      | none => (s, replyOnly .none)
      | some e =>
        (s.openContext c sl.entry cls,
          replyOk (heldRecord s.now c { ticket := s.ticket + 1, entry := sl.entry, cls := cls } sl e))

/-- The OPEN context with its slot record and its transit entry (R85). -/
def State.opening (s : State) (c : ContextIndex) : Option (OpenContext × Slot × Entry) := do
  let o ← s.context c
  let sl ← s.slotOf o.entry
  let e ← s.entry o.entry
  some (o, sl, e)

/-- PEEK (R91): BAD_PARAM, STALE for a FREE context, or the held record; it changes no state. -/
def cmdPeek (ctx : Byte) (s : State) : State × Reply :=
  match finOf 4 ctx.toNat with
  | none => (s, replyOnly .badParam)
  | some c =>
    match s.opening c with
    | none => (s, replyOnly .stale)
    | some (o, sl, e) => (s, replyOk (heldRecord s.now c o sl e))

end Sys2Proof.Machine
end

