-- ==== Sys2Proof/Machine/Dispositions.lean ====
section
/-! DEFINITION. What the five dispositions do (R101 to R112). -/

namespace Sys2Proof.Machine

/-- The slot record and entry a disposition addresses, where the named context is OPEN with the ticket carried (R103). -/
def State.addressed (s : State) (c : ContextIndex) (ticket : Half) : Option (Slot × Entry) :=
  match s.opening c with
  | none => none
  | some (o, sl, e) => if o.ticket = ticket then some (sl, e) else none

/-- A closing disposition that has passed every test: the departure, and then the test of the head request, with the
answer OK (R104). -/
def State.closeBy (s : State) (sl : Slot) (e : Entry) (dest : Departure) : State × Reply :=
  ((s.depart sl e dest).openEpisode, replyOnly .ok)

/-- RELEASE (R105). -/
def cmdRelease (ctx : Byte) (ticket : Half) (s : State) : State × Reply :=
  match finOf 4 ctx.toNat with
  | none => (s, replyOnly .badParam)
  | some c =>
    match s.addressed c ticket with
    | none => (s, replyOnly .stale)
    | some (sl, e) => s.closeBy sl e .issue

/-- The replacement of a held WRITE's data and lanes, whole (R107). -/
def State.rewrite (s : State) (i : TransitIndex) (e : Entry) (lanes : Lanes) (data : Word) : State :=
  s.setEntry i (some { e with req := { e.req with access := .write data, lanes := lanes } })

/-- A lane set that names at least one lane and no lane above 3 (R102 step 1, R106). -/
def releaseLanesOf (b : Byte) : Option Lanes := (laneSetOf b).filter fun l => decide (l ≠ 0)

/-- RELEASE WITH DATA (R106, R107): WRONG_KIND for a READ; or the WRITE's data and lanes are replaced and it is released. -/
def cmdReleaseWithData (ctx : Byte) (ticket : Half) (lanes : Byte) (data : Word) (s : State) : State × Reply :=
  match finOf 4 ctx.toNat, releaseLanesOf lanes with
  | some c, some l =>
    match s.addressed c ticket with
    | none => (s, replyOnly .stale)
    | some (sl, e) =>
      match e.req.access with
      | .read => (s, replyOnly .wrongKind)
      | .write _ => (s.rewrite sl.entry e l data).closeBy sl e .issue
  | _, _ => (s, replyOnly .badParam)

/-- ANSWER (R108, R109): DONE with OK; a READ is given the word carried, a WRITE is absorbed. -/
def cmdAnswer (ctx : Byte) (ticket : Half) (data : Word) (s : State) : State × Reply :=
  match finOf 4 ctx.toNat with
  | none => (s, replyOnly .badParam)
  | some c =>
    match s.addressed c ticket with
    | none => (s, replyOnly .stale)
    | some (sl, e) => s.closeBy sl e (.done (okResponse e.req.access data))

/-- REFUSE (R110): DONE with ERROR; REFUSAL is not posted. -/
def cmdRefuse (ctx : Byte) (ticket : Half) (s : State) : State × Reply :=
  match finOf 4 ctx.toNat with
  | none => (s, replyOnly .badParam)
  | some c =>
    match s.addressed c ticket with
    | none => (s, replyOnly .stale)
    | some (sl, e) => s.closeBy sl e (.done .error)

/-- EXTEND (R50, R111): the deadline restarts from now with the code carried; with code 0 there is none. -/
def cmdExtend (ctx : Byte) (ticket : Half) (code : Byte) (s : State) : State × Reply :=
  match finOf 4 ctx.toNat, finOf 16 code.toNat with
  | some c, some k =>
    match s.addressed c ticket with
    | none => (s, replyOnly .stale)
    | some (sl, _) =>
      (s.updateSlot sl.entry fun x => { x with deadline := deadlineFrom s.now k.val }, replyOnly .ok)
  | _, _ => (s, replyOnly .badParam)

end Sys2Proof.Machine
end

