-- ==== Sys2Proof/Machine/LinkUnit.lean ====
section
/-! DEFINITION. The link's own commands: IDENTIFY (R172), SURVEY (R173), GATE (R166), QUIESCE (R167) and SOFT RESET
(R170). -/

namespace Sys2Proof.Machine

/-- IDENTIFY (R172, R182). -/
def cmdIdentify (s : State) : State × Reply :=
  (s, replyOk (bytesOfHalf Config.partCode ++
    [byteOf Config.revision, byteOf Config.windows, byteOf Config.holdSlots, byteOf Config.blockedPlaces,
      byteOf Config.transitEntries, byteOf Config.contexts, byteOf Config.classes] ++
    bytesOfHalf (BitVec.ofNat 16 Config.cells) ++ [byteOf Config.lists]))

/-- The seven route state counts, in the order of R182. -/
def State.routeCounts (s : State) : List Nat :=
  [s.countFree, s.countRoute fun r => decide (r = .issueWait), s.countRoute fun r => decide (r = .inMemory),
    s.countRoute fun r => decide (r = .held), s.countRoute fun r => decide (r = .blocked), s.countRoute Route.isDone,
    s.countRoute fun r => decide (r = .orphan)]

/-- SURVEY (R173, R182); the link state it returns is RESPONDING. -/
def cmdSurvey (s : State) : State × Reply :=
  (s, replyOk (s.routeCounts.map byteOf ++ [gateCode s.gate, stallCode s.stallReason, 0x04]))

/-- GATE (R166, R182): BAD_PARAM, or the gate takes the value carried and the head request is tested again. -/
def cmdGate (code : Byte) (s : State) : State × Reply :=
  match flagOf code with
  | none => (s, replyOnly .badParam)
  | some close => (({ s with gate := if close then .closed else .opened }).openEpisode, replyOnly .ok)

/-- QUIESCE at its check byte (R167): the gate closes; with no forwarded entry it completes at once, else the link is
EXECUTING and the quiesce timer starts. -/
def State.startQuiesce (s : State) : State :=
  let closed := { s with gate := .closed }
  (if closed.anyForwarded then { closed with link := .executing 0 closed.now }
   else closed.answerWith 0 closed.quiesceReply).openEpisode

/-- What SOFT RESET makes of an entry: HELD becomes DONE with ERROR; BLOCKED becomes ISSUE_WAIT with the unmatched decision;
every other entry stays (R21). -/
def softResetEntry (e : Option Entry) : Option Entry :=
  e.map fun e =>
    match e.route with
    | .held => { e with route := .done .error }
    | .blocked => { e with route := .issueWait, decision := some Decision.unmatched }
    | .issueWait => e
    | .inMemory => e
    | .done _ => e
    | .orphan => e

/-- SOFT RESET (R170), as one event: the held entries are answered in hold-arrival order, the blocked forwarded in
acceptance order (R21, R58, R75), the windows made invalid (R38), the contexts freed and the settings restored (R99), the
lists made IDLE (R137), the causes cleared (R153) and the gate opened (R166). -/
def cmdSoftReset (s : State) : State × Reply :=
  (({ s with
      entries := s.entries.map softResetEntry
      respQ := s.respQ ++ s.pool.map Slot.entry
      issueQ := s.issueQ ++ s.blocked
      pool := []
      blocked := []
      windows := s.windows.map fun (w : Window) => { w with valid := false, hits := 0 }
      arb := Arbitration.powerOn
      contexts := Vector.replicate 4 none
      answerLists := s.answerLists.map fun (a : AnswerList) => { a with state := .idle }
      captureLists := s.captureLists.map fun (c : CaptureList) => { c with state := .idle }
      causes := Causes.clear
      gate := .opened }).openEpisode, replyOnly .ok)

end Sys2Proof.Machine
end

