-- ==== Sys2Proof/Machine/Lists.lean ====
section
/-! DEFINITION. What the list commands do at the list unit (R122 to R128, R132). -/

namespace Sys2Proof.Machine

/-- The area of an answer list: first cell and length (R124). -/
def AnswerList.area (a : AnswerList) : Nat × Nat := (a.first, a.length)

/-- The area of a capture list (R124). -/
def CaptureList.area (c : CaptureList) : Nat × Nat := (c.first, c.length)

/-- Two areas share a cell (R126). -/
def areasMeet (a b : Nat × Nat) : Bool := decide (a.1 < b.1 + b.2) && decide (b.1 < a.1 + a.2)

/-- The areas of the engaged lists: those in any state other than IDLE (R124). -/
def State.engagedAreas (s : State) : List (Nat × Nat) :=
  ((s.answerLists.toList.filter fun a => decide (a.state ≠ .idle)).map AnswerList.area) ++
  ((s.captureLists.toList.filter fun c => decide (c.state ≠ .idle)).map CaptureList.area)

/-- The area meets an engaged area (R122, R126). -/
def State.meetsEngaged (s : State) (area : Nat × Nat) : Bool := s.engagedAreas.any fun b => areasMeet area b

/-- Writes one answer list's descriptor. -/
def State.setAnswerList (s : State) (l : ListOrdinal) (a : AnswerList) : State :=
  { s with answerLists := s.answerLists.set l a }

/-- Writes one capture list's descriptor. -/
def State.setCaptureList (s : State) (l : ListOrdinal) (c : CaptureList) : State :=
  { s with captureLists := s.captureLists.set l c }

/-- LOAD CELLS (R122): BAD_PARAM for a run past cell 511; BUSY for a run that meets an engaged area; or the run is
written. -/
def cmdLoadCells (start : Half) (words : List Word) (s : State) : State × Reply :=
  if 512 < start.toNat + words.length ∨ 511 < start.toNat then (s, replyOnly .badParam)
  else if s.meetsEngaged (start.toNat, words.length) then (s, replyOnly .busy)
  else ({ s with cells := writeRun s.cells start.toNat words }, replyOnly .ok)

/-- SET LIST (R125): BAD_PARAM; BUSY unless the list is IDLE; or the descriptor is written, an answer list's progress reset
and a capture list's records discarded. -/
def cmdSetList (list : Byte) (first length : Half) (control : Byte) (s : State) : State × Reply :=
  match listIdOf list, listControlOf control, areaOk first.toNat length.toNat with
  | some (.answer l), some (x, reload), true =>
    if s.answerLists[l].state ≠ .idle then (s, replyOnly .busy)
    else ((s.setAnswerList l
      { first := first.toNat, length := length.toNat, exhaustion := x, reload := reload, state := .idle,
        position := first.toNat, remaining := 0 }).openEpisode, replyOnly .ok)
  | some (.capture l), some (x, _), true =>
    if s.captureLists[l].state ≠ .idle then (s, replyOnly .busy)
    else ((s.setCaptureList l
      { first := first.toNat, length := length.toNat, exhaustion := x, state := .idle, head := 0,
        count := 0 }).openEpisode, replyOnly .ok)
  | _, _, _ => (s, replyOnly .badParam)

/-- A capture list engaged by ARM: FULL when its count equals its length, else ARMED (R126). -/
def CaptureList.armed (c : CaptureList) : CaptureList :=
  if c.count = c.length then { c with state := .full } else { c with state := .armed }

/-- ARM (R126): BAD_PARAM; BUSY unless the list is IDLE; OVERLAP when its area meets an engaged area; or the list is
engaged, and a list FULL at ARM posts CAPTURE_FULL. -/
def cmdArmList (list : Byte) (s : State) : State × Reply :=
  match listIdOf list with
  | none => (s, replyOnly .badParam)
  | some (.answer l) =>
    let a := s.answerLists[l]
    if a.state ≠ .idle then (s, replyOnly .busy)
    else if s.meetsEngaged a.area then (s, replyOnly .overlap)
    else ((s.setAnswerList l { a with state := .armed, position := a.first, remaining := a.length }).openEpisode,
      replyOnly .ok)
  | some (.capture l) =>
    let c := s.captureLists[l]
    if c.state ≠ .idle then (s, replyOnly .busy)
    else if s.meetsEngaged c.area then (s, replyOnly .overlap)
    else
      let armed := s.setCaptureList l c.armed
      ((if c.armed.state = .full then armed.postCaptureFull l else armed).openEpisode, replyOnly .ok)

/-- DISARM (R127): BAD_PARAM, or the list is IDLE with its progress and records kept. -/
def cmdDisarmList (list : Byte) (s : State) : State × Reply :=
  match listIdOf list with
  | none => (s, replyOnly .badParam)
  | some (.answer l) => ((s.setAnswerList l { s.answerLists[l] with state := .idle }).openEpisode, replyOnly .ok)
  | some (.capture l) => ((s.setCaptureList l { s.captureLists[l] with state := .idle }).openEpisode, replyOnly .ok)

/-- The 11 bytes of an answer list's descriptor (R180). -/
def answerListBytes (l : ListOrdinal) (a : AnswerList) : List Byte :=
  [byteOf l.val] ++ bytesOfHalf (BitVec.ofNat 16 a.first) ++ bytesOfHalf (BitVec.ofNat 16 a.length) ++
  [listControl a.exhaustion a.reload, answerStateCode a.state] ++ bytesOfHalf (BitVec.ofNat 16 a.position) ++
  bytesOfHalf (BitVec.ofNat 16 a.remaining)

/-- The 11 bytes of a capture list's descriptor; reload reads 0 (R180). -/
def captureListBytes (l : ListOrdinal) (c : CaptureList) : List Byte :=
  [byteOf (4 + l.val)] ++ bytesOfHalf (BitVec.ofNat 16 c.first) ++ bytesOfHalf (BitVec.ofNat 16 c.length) ++
  [listControl c.exhaustion false, captureStateCode c.state] ++ bytesOfHalf (BitVec.ofNat 16 c.head) ++
  bytesOfHalf (BitVec.ofNat 16 c.count)

/-- READ LIST (R128): BAD_PARAM, or the descriptor as it stands. -/
def cmdReadList (list : Byte) (s : State) : State × Reply :=
  match listIdOf list with
  | none => (s, replyOnly .badParam)
  | some (.answer l) => (s, replyOk (answerListBytes l s.answerLists[l]))
  | some (.capture l) => (s, replyOk (captureListBytes l s.captureLists[l]))

/-- The cell of the record k places after the oldest (R123). -/
def CaptureList.recordCell (c : CaptureList) (k : Nat) : Nat := c.first + (c.head + k) % c.length

/-- A capture record in the response: data word, lane set, master, word offset (R180). -/
def recordBytes (c : Cell) : List Byte :=
  bytesOfWord c.data ++ [(0#4) ++ c.lanes, byteOf c.master.val] ++ bytesOfHalf (c.offset.setWidth 16)

/-- A capture list after its m oldest records have left it; a FULL list that lost a record is ARMED (R132). -/
def CaptureList.drained (c : CaptureList) (m : Nat) : CaptureList :=
  { c with
    head := (c.head + m) % c.length
    count := c.count - m
    state := if c.state = .full ∧ 0 < m then .armed else c.state }

/-- DRAIN CAPTURE (R132): BAD_PARAM, or the oldest min(n, count) records, which leave the list. -/
def cmdDrainCapture (list n : Byte) (s : State) : State × Reply :=
  match listIdOf list with
  | some (.capture l) =>
    if n.toNat < 1 ∨ 8 < n.toNat then (s, replyOnly .badParam)
    else
      let c := s.captureLists[l]
      let m := min n.toNat c.count
      let payload := byteOf m :: (List.range m).flatMap fun k => recordBytes (readCell s.cells (c.recordCell k))
      (if m = 0 then s else (s.setCaptureList l (c.drained m)).openEpisode, replyOk payload)
  | _ => (s, replyOnly .badParam)

end Sys2Proof.Machine
end

