-- ==== Sys2Proof/Machine/WindowTable.lean ====
section
/-! DEFINITION. What WRITE WINDOW and READ WINDOW do at the window table (R31 to R36). -/

namespace Sys2Proof.Machine

/-- Writes one place of the window table. -/
def State.setWindow (s : State) (i : WindowIndex) (w : Window) : State := { s with windows := s.windows.set i w }

/-- WRITE WINDOW (R31, R32, R34): BAD_PARAM, or the window is replaced whole with its hit counter 0, answered ADJUSTED
when its base was adjusted and OK otherwise. The head request is then tested again (R33). -/
def cmdWriteWindow (w : WindowImage) (s : State) : State × Reply :=
  match finOf 24 w.index.toNat, windowOf w with
  | some i, some win =>
    ((s.setWindow i win).openEpisode, replyOnly (if win.base = w.base then .ok else .adjusted))
  | _, _ => (s, replyOnly .badParam)

/-- The 17 bytes of a window entry (R177). -/
def windowEntryBytes (i : WindowIndex) (w : Window) : List Byte :=
  [byteOf i.val] ++ bytesOfWord w.base ++
  [byteOf w.exponent.val, windowControl w, w.masters, byteOf w.cls.val, byteOf w.deadlineCode.val,
    deadlineActionCode w.deadlineAction] ++
  bytesOfWord w.fill ++ [codeOrNone w.readList, writeListCode w.writeList]

/-- READ WINDOW (R35, R36): BAD_PARAM, or the window's fields and hit count, the counter then cleared if the flag is
set. -/
def cmdReadWindow (index flag : Byte) (s : State) : State × Reply :=
  match finOf 24 index.toNat, flagOf flag with
  | some i, some clear =>
    let w := s.windows[i]
    (if clear then s.setWindow i { w with hits := 0 } else s, replyOk (windowEntryBytes i w ++ bytesOfHalf w.hits))
  | _, _ => (s, replyOnly .badParam)

end Sys2Proof.Machine
end

