-- ==== Sys2Proof/Machine/Frame.lean ====
section
/-! DEFINITION. The frame stream of the S-link: the bytes of each command's frame (R175 to R182), reading a command from a
frame (R160), its execution (R161), and the transfers at SA0 = 0 and SA0 = 1 (R157 to R164). -/

namespace Sys2Proof.Machine

/-! ## Command frames -/

/-- The payload bytes of a command, or none for a row that is not a framed command (R177 to R182). -/
def commandPayload : Instr → Option (Byte × List Byte)
  | .identify => some (0x01, [])
  | .survey => some (0x02, [])
  | .writeWindow w => some (0x10, [w.index] ++ bytesOfWord w.base ++
      [w.exponent, w.control, w.masters, w.cls, w.deadlineCode, w.deadlineAction] ++ bytesOfWord w.fill ++
      [w.readList, w.writeList])
  | .readWindow index flag => some (0x11, [index, flag])
  | .setArbitration order nesting floor suppressed notifyOn => some (0x20, [order, nesting, floor, suppressed, notifyOn])
  | .readArbitration => some (0x21, [])
  | .take => some (0x30, [])
  | .peek ctx => some (0x31, [ctx])
  | .release ctx ticket => some (0x32, [ctx] ++ bytesOfHalf ticket)
  | .releaseWithData ctx ticket lanes data => some (0x33, [ctx] ++ bytesOfHalf ticket ++ [lanes] ++ bytesOfWord data)
  | .answer ctx ticket data => some (0x34, [ctx] ++ bytesOfHalf ticket ++ bytesOfWord data)
  | .refuse ctx ticket => some (0x35, [ctx] ++ bytesOfHalf ticket)
  | .extend ctx ticket code => some (0x36, [ctx] ++ bytesOfHalf ticket ++ [code])
  | .setList list first length control => some (0x40, [list] ++ bytesOfHalf first ++ bytesOfHalf length ++ [control])
  | .loadCells start words => some (0x41, bytesOfHalf start ++ words.flatMap bytesOfWord)
  | .armList list => some (0x42, [list])
  | .disarmList list => some (0x43, [list])
  | .readList list => some (0x44, [list])
  | .drainCapture list n => some (0x45, [list, n])
  | .readAttention cause => some (0x50, [cause])
  | .clearAttention causes => some (0x51, bytesOfHalf causes)
  | .setAttentionEnable causes => some (0x52, bytesOfHalf causes)
  | .gate code => some (0x60, [code])
  | .quiesce => some (0x61, [])
  | .softReset => some (0x6F, [])
  | .headRequestPresented _ => none
  | .acceptance => none
  | .issue => none
  | .memoryResponse _ _ => none
  | .hostTake => none
  | .hostReset => none
  | .hresetNegation => none
  | .powerOnReset => none
  | .presetNegation => none
  | .deadlineExpiry _ => none
  | .gapTimerExpiry => none
  | .quiesceCompletion => none
  | .quiesceTimerExpiry => none
  | .frameWrite _ => none
  | .frameRead => none
  | .abort _ => none

/-- The command frame: opcode, length, payload, check byte (R156, R175); empty for a row that is no framed command. -/
def commandFrame (c : Instr) : List Byte :=
  match commandPayload c with
  | some (op, payload) => sealFrame (op :: byteOf payload.length :: payload)
  | none => []

/-- Data words of four bytes each, most significant byte first; none unless the bytes make whole words (R180). -/
def wordsOfBytes : List Byte → Option (List Word)
  | [] => some []
  | b3 :: b2 :: b1 :: b0 :: rest => (wordsOfBytes rest).map fun ws => wordOfBytes b3 b2 b1 b0 :: ws
  | _ => none

/-- What the examination of a frame with a good sum finds (R160 tests 2 and 3). -/
inductive Examined where
  | unknownOp
  | badLength
  | command (c : Instr)
  deriving DecidableEq, Repr

/-- The command of an opcode and its payload: the payload length must be the one the opcode requires (R160, R175). -/
def readCommand (op : Nat) (payload : List Byte) : Examined :=
  match op with
  | 0x01 => match payload with
    | [] => .command .identify
    | _ => .badLength
  | 0x02 => match payload with
    | [] => .command .survey
    | _ => .badLength
  | 0x10 => match payload with
    | [i, a3, a2, a1, a0, e, ctl, m, c, k, x, f3, f2, f1, f0, rl, wl] => .command (.writeWindow
        { index := i, base := wordOfBytes a3 a2 a1 a0, exponent := e, control := ctl, masters := m, cls := c,
          deadlineCode := k, deadlineAction := x, fill := wordOfBytes f3 f2 f1 f0, readList := rl, writeList := wl })
    | _ => .badLength
  | 0x11 => match payload with
    | [i, f] => .command (.readWindow i f)
    | _ => .badLength
  | 0x20 => match payload with
    | [o, n, f, u, y] => .command (.setArbitration o n f u y)
    | _ => .badLength
  | 0x21 => match payload with
    | [] => .command .readArbitration
    | _ => .badLength
  | 0x30 => match payload with
    | [] => .command .take
    | _ => .badLength
  | 0x31 => match payload with
    | [c] => .command (.peek c)
    | _ => .badLength
  | 0x32 => match payload with
    | [c, t1, t0] => .command (.release c (halfOfBytes t1 t0))
    | _ => .badLength
  | 0x33 => match payload with
    | [c, t1, t0, l, d3, d2, d1, d0] =>
      .command (.releaseWithData c (halfOfBytes t1 t0) l (wordOfBytes d3 d2 d1 d0))
    | _ => .badLength
  | 0x34 => match payload with
    | [c, t1, t0, d3, d2, d1, d0] => .command (.answer c (halfOfBytes t1 t0) (wordOfBytes d3 d2 d1 d0))
    | _ => .badLength
  | 0x35 => match payload with
    | [c, t1, t0] => .command (.refuse c (halfOfBytes t1 t0))
    | _ => .badLength
  | 0x36 => match payload with
    | [c, t1, t0, k] => .command (.extend c (halfOfBytes t1 t0) k)
    | _ => .badLength
  | 0x40 => match payload with
    | [l, f1, f0, n1, n0, x] => .command (.setList l (halfOfBytes f1 f0) (halfOfBytes n1 n0) x)
    | _ => .badLength
  | 0x41 => match payload with
    | s1 :: s0 :: rest =>
      match wordsOfBytes rest with
      | some words => if 1 ≤ words.length ∧ words.length ≤ 12 then .command (.loadCells (halfOfBytes s1 s0) words)
          else .badLength
      | none => .badLength
    | _ => .badLength
  | 0x42 => match payload with
    | [l] => .command (.armList l)
    | _ => .badLength
  | 0x43 => match payload with
    | [l] => .command (.disarmList l)
    | _ => .badLength
  | 0x44 => match payload with
    | [l] => .command (.readList l)
    | _ => .badLength
  | 0x45 => match payload with
    | [l, n] => .command (.drainCapture l n)
    | _ => .badLength
  | 0x50 => match payload with
    | [c] => .command (.readAttention c)
    | _ => .badLength
  | 0x51 => match payload with
    | [h1, h0] => .command (.clearAttention (halfOfBytes h1 h0))
    | _ => .badLength
  | 0x52 => match payload with
    | [h1, h0] => .command (.setAttentionEnable (halfOfBytes h1 h0))
    | _ => .badLength
  | 0x60 => match payload with
    | [g] => .command (.gate g)
    | _ => .badLength
  | 0x61 => match payload with
    | [] => .command .quiesce
    | _ => .badLength
  | 0x6F => match payload with
    | [] => .command .softReset
    | _ => .badLength
  | _ => .unknownOp

/-! ## Execution -/

/-- The execution of a command whose frame has length L: the owning block's effect, then its response in the link
(R161). -/
def State.execute (s : State) (length : Nat) (cmd : State → State × Reply) : State :=
  (cmd s).1.answerWith length (cmd s).2

/-- The execution of a framed command on receipt of its check byte, the link IDLE (R161). -/
def State.run (s : State) (length : Nat) : Instr → State
  | .identify => s.execute length cmdIdentify
  | .survey => s.execute length cmdSurvey
  | .writeWindow w => s.execute length (cmdWriteWindow w)
  | .readWindow index flag => s.execute length (cmdReadWindow index flag)
  | .setArbitration order nesting floor suppressed notifyOn =>
    s.execute length (cmdSetArbitration order nesting floor suppressed notifyOn)
  | .readArbitration => s.execute length cmdReadArbitration
  | .take => s.execute length cmdTake
  | .peek ctx => s.execute length (cmdPeek ctx)
  | .release ctx ticket => s.execute length (cmdRelease ctx ticket)
  | .releaseWithData ctx ticket lanes data => s.execute length (cmdReleaseWithData ctx ticket lanes data)
  | .answer ctx ticket data => s.execute length (cmdAnswer ctx ticket data)
  | .refuse ctx ticket => s.execute length (cmdRefuse ctx ticket)
  | .extend ctx ticket code => s.execute length (cmdExtend ctx ticket code)
  | .setList list first len control => s.execute length (cmdSetList list first len control)
  | .loadCells start words => s.execute length (cmdLoadCells start words)
  | .armList list => s.execute length (cmdArmList list)
  | .disarmList list => s.execute length (cmdDisarmList list)
  | .readList list => s.execute length (cmdReadList list)
  | .drainCapture list n => s.execute length (cmdDrainCapture list n)
  | .readAttention cause => s.execute length (cmdReadAttention cause)
  | .clearAttention causes => s.execute length (cmdClearAttention causes)
  | .setAttentionEnable causes => s.execute length (cmdSetAttentionEnable causes)
  | .gate code => s.execute length (cmdGate code)
  | .quiesce => s.startQuiesce
  | .softReset => s.execute length cmdSoftReset
  | .headRequestPresented _ => s
  | .acceptance => s
  | .issue => s
  | .memoryResponse _ _ => s
  | .hostTake => s
  | .hostReset => s
  | .hresetNegation => s
  | .powerOnReset => s
  | .presetNegation => s
  | .deadlineExpiry _ => s
  | .gapTimerExpiry => s
  | .quiesceCompletion => s
  | .quiesceTimerExpiry => s
  | .frameWrite _ => s
  | .frameRead => s
  | .abort _ => s

/-- The examination of a completed frame, given opcode, length byte, payload and check byte, the link IDLE again
(R160). -/
def State.examine (s : State) (op len : Byte) (payload : List Byte) (check : Byte) : State :=
  if bytesSum (op :: len :: payload ++ [check]) ≠ 0 then s.answerWith payload.length (replyOnly .checkFail)
  else
    match readCommand op.toNat payload with
    | .unknownOp => s.answerWith payload.length (replyOnly .unknownOp)
    | .badLength => s.answerWith payload.length (replyOnly .badLength)
    | .command c => s.run payload.length c

/-- The link with the bytes of a frame received so far, the last of them just now: a length byte above 80 starts DISCARDING
with LINK_FAULT overlong; the byte after the payload completes the frame (R157, R158). -/
def State.receive (s : State) (bytes : List Byte) : State :=
  match bytes with
  | op :: len :: rest =>
    if Config.maxPayload < len.toNat then
      ({ s with link := .discarding s.now }).postLinkFault { kind := .overlong, bytes := 2 }
    else
      match rest.drop len.toNat with
      | [check] => ({ s with link := .idle }).examine op len (rest.take len.toNat) check
      | _ => { s with link := .receiving bytes s.now }
  | _ => { s with link := .receiving bytes s.now }

/-- A write at SA0 = 0, by the link state (R157, R158, R163); nothing while PRESET# is asserted (R154). -/
def State.writeByte (s : State) (b : Byte) : State :=
  if s.preset then s
  else
    match s.link with
    | .idle => s.receive [b]
    | .receiving bytes _ => s.receive (bytes ++ [b])
    | .discarding _ => { s with link := .discarding s.now }
    | .executing length _ => s.postLinkFault { kind := .writeWhileBusy, bytes := length + 3 }
    | .responding length _ _ => s.postLinkFault { kind := .writeWhileBusy, bytes := length + 3 }

/-- Writes at SA0 = 0, one after another at one reading of the timebase. -/
def State.writeBytes (s : State) (bs : List Byte) : State := bs.foldl State.writeByte s

/-- FRAME_WRITE (R157). -/
def execFrameWrite (b : Byte) (s : State) : Out := .next (s.writeByte b)

/-- A read at SA0 = 0: in RESPONDING the next byte of the response, the link becoming IDLE with the check byte; in any other
state 00h (R162). While PRESET# is asserted it is not answered (R154). -/
def State.readByte (s : State) : State :=
  if s.preset then { s with sdOut := none }
  else
    match s.link with
    | .responding length frame taken =>
      { s with
        sdOut := some (frame.getD taken 0)
        link := if frame.length ≤ taken + 1 then .idle else .responding length frame (taken + 1) }
    | .idle => { s with sdOut := some 0 }
    | .receiving _ _ => { s with sdOut := some 0 }
    | .discarding _ => { s with sdOut := some 0 }
    | .executing _ _ => { s with sdOut := some 0 }

/-- FRAME_READ (R162). -/
def execFrameRead (s : State) : Out := .next s.readByte

/-- ABORT (R164): a control write of 01h takes the link to IDLE from any state; any other value is ignored. While PRESET#
is asserted it is not received (R154). -/
def execAbort (control : Byte) (s : State) : Out :=
  .next (if s.preset then s else if control = 0x01 then { s with link := .idle } else s)

end Sys2Proof.Machine
end

