-- ==== Sys2Proof/Machine/Commands.lean ====
section
/-! DEFINITION. The 25 framed commands as commands of the block: the supervisor writes the command's whole frame, check byte
last, at one reading of the timebase (log entry 1). On a link that is IDLE the frame is sound and the command is executed at
its check byte (R160, R161). In any other link state the same bytes meet the link as single frame writes: they are ignored
with LINK_FAULT, passed over, or taken into the frame already begun (R157, R158, R163). -/

namespace Sys2Proof.Machine

/-- The whole frame of a command reaches the link; `effect` is its execution on an IDLE link. -/
def sendFrame (c : Instr) (effect : State → State) (s : State) : Out :=
  .next (if s.preset then s
    else if s.link = .idle then effect s
    else s.writeBytes (commandFrame c))

/-- IDENTIFY (R172). -/
def execIdentify (s : State) : Out := sendFrame .identify (fun s => s.execute 0 cmdIdentify) s

/-- SURVEY (R173). -/
def execSurvey (s : State) : Out := sendFrame .survey (fun s => s.execute 0 cmdSurvey) s

/-- WRITE WINDOW (R32). -/
def execWriteWindow (w : WindowImage) (s : State) : Out :=
  sendFrame (.writeWindow w) (fun s => s.execute 17 (cmdWriteWindow w)) s

/-- READ WINDOW (R35). -/
def execReadWindow (index flag : Byte) (s : State) : Out :=
  sendFrame (.readWindow index flag) (fun s => s.execute 2 (cmdReadWindow index flag)) s

/-- SET ARBITRATION (R96). -/
def execSetArbitration (order nesting floor suppressed notifyOn : Byte) (s : State) : Out :=
  sendFrame (.setArbitration order nesting floor suppressed notifyOn)
    (fun s => s.execute 5 (cmdSetArbitration order nesting floor suppressed notifyOn)) s

/-- READ ARBITRATION (R97). -/
def execReadArbitration (s : State) : Out := sendFrame .readArbitration (fun s => s.execute 0 cmdReadArbitration) s

/-- TAKE (R87). -/
def execTake (s : State) : Out := sendFrame .take (fun s => s.execute 0 cmdTake) s

/-- PEEK (R91). -/
def execPeek (ctx : Byte) (s : State) : Out := sendFrame (.peek ctx) (fun s => s.execute 1 (cmdPeek ctx)) s

/-- RELEASE (R105). -/
def execRelease (ctx : Byte) (ticket : Half) (s : State) : Out :=
  sendFrame (.release ctx ticket) (fun s => s.execute 3 (cmdRelease ctx ticket)) s

/-- RELEASE WITH DATA (R107). -/
def execReleaseWithData (ctx : Byte) (ticket : Half) (lanes : Byte) (data : Word) (s : State) : Out :=
  sendFrame (.releaseWithData ctx ticket lanes data)
    (fun s => s.execute 8 (cmdReleaseWithData ctx ticket lanes data)) s

/-- ANSWER (R108). -/
def execAnswer (ctx : Byte) (ticket : Half) (data : Word) (s : State) : Out :=
  sendFrame (.answer ctx ticket data) (fun s => s.execute 7 (cmdAnswer ctx ticket data)) s

/-- REFUSE (R110). -/
def execRefuse (ctx : Byte) (ticket : Half) (s : State) : Out :=
  sendFrame (.refuse ctx ticket) (fun s => s.execute 3 (cmdRefuse ctx ticket)) s

/-- EXTEND (R111). -/
def execExtend (ctx : Byte) (ticket : Half) (code : Byte) (s : State) : Out :=
  sendFrame (.extend ctx ticket code) (fun s => s.execute 4 (cmdExtend ctx ticket code)) s

/-- SET LIST (R125). -/
def execSetList (list : Byte) (first length : Half) (control : Byte) (s : State) : Out :=
  sendFrame (.setList list first length control) (fun s => s.execute 6 (cmdSetList list first length control)) s

/-- LOAD CELLS (R122). A run of no word or of 13 words or more is no LOAD CELLS that the link passes (R160 test 3): its
bytes meet the link one by one and are answered BAD_LENGTH, or discarded as overlong from 20 words on (R158). A run of 64
words or more fits no frame. -/
def execLoadCells (start : Half) (words : List Word) (s : State) : Out :=
  if 63 < words.length then .fault .noSuchFrame
  else sendFrame (.loadCells start words)
    (fun s => if 1 ≤ words.length ∧ words.length ≤ 12 then s.execute (2 + 4 * words.length) (cmdLoadCells start words)
      else s.writeBytes (commandFrame (.loadCells start words))) s

/-- ARM LIST (R126). -/
def execArmList (list : Byte) (s : State) : Out :=
  sendFrame (.armList list) (fun s => s.execute 1 (cmdArmList list)) s

/-- DISARM LIST (R127). -/
def execDisarmList (list : Byte) (s : State) : Out :=
  sendFrame (.disarmList list) (fun s => s.execute 1 (cmdDisarmList list)) s

/-- READ LIST (R128). -/
def execReadList (list : Byte) (s : State) : Out :=
  sendFrame (.readList list) (fun s => s.execute 1 (cmdReadList list)) s

/-- DRAIN CAPTURE (R132). -/
def execDrainCapture (list n : Byte) (s : State) : Out :=
  sendFrame (.drainCapture list n) (fun s => s.execute 2 (cmdDrainCapture list n)) s

/-- READ ATTENTION (R149). -/
def execReadAttention (cause : Byte) (s : State) : Out :=
  sendFrame (.readAttention cause) (fun s => s.execute 1 (cmdReadAttention cause)) s

/-- CLEAR ATTENTION (R150). -/
def execClearAttention (causes : Half) (s : State) : Out :=
  sendFrame (.clearAttention causes) (fun s => s.execute 2 (cmdClearAttention causes)) s

/-- SET ATTENTION ENABLE (R151). -/
def execSetAttentionEnable (causes : Half) (s : State) : Out :=
  sendFrame (.setAttentionEnable causes) (fun s => s.execute 2 (cmdSetAttentionEnable causes)) s

/-- GATE (R166). -/
def execGate (code : Byte) (s : State) : Out := sendFrame (.gate code) (fun s => s.execute 1 (cmdGate code)) s

/-- QUIESCE (R167). -/
def execQuiesce (s : State) : Out := sendFrame .quiesce State.startQuiesce s

/-- SOFT RESET (R170). -/
def execSoftReset (s : State) : Out := sendFrame .softReset (fun s => s.execute 0 cmdSoftReset) s

end Sys2Proof.Machine
end

