-- ==== Sys2Proof/Machine/MPort.lean ====
section
/-! DEFINITION. The commands of the M-port: issue (R14) and memory response (R15). -/

namespace Sys2Proof.Machine

/-- Memory takes the request the M-port presents: its entry becomes IN_MEMORY and leaves the issue queue. With nothing
presented, memory takes nothing (R14). -/
def execIssue (s : State) : Out :=
  match s.presentedIssue, s.issueQ with
  | some _, i :: rest => .next ({ s.setRoute i .inMemory with issueQ := rest }).settle
  | _, _ => .next s

/-- A memory response for an IN_MEMORY entry: DONE; an OK READ keeps the read data, an ERROR posts MEMORY_ERROR (R15). -/
def State.respond (s : State) (i : TransitIndex) (e : Entry) : MemReply → State
  | .ok w => s.complete i (okResponse e.req.access w)
  | .error => (s.complete i .error).postMemoryError
      { master := e.req.master, tag := e.req.tag, addr := e.req.addr, kind := kindOf e.req.access }

/-- A memory response, applied by the route state of the entry it names; for an ORPHAN it is absorbed, in any state but
IN_MEMORY and ORPHAN it is ignored (R15, R20, R22). -/
def execMemoryResponse (i : TransitIndex) (reply : MemReply) (s : State) : Out :=
  match s.entry i with
  | none => .next s
  | some e =>
    match e.route with
    | .inMemory => .next (s.respond i e reply).settle
    | .orphan => .next (s.setEntry i none).settle
    | .issueWait => .next s
    | .held => .next s
    | .blocked => .next s
    | .done _ => .next s

end Sys2Proof.Machine
end

