-- ==== Sys2Proof/Machine/Resets.lean ====
section
/-! DEFINITION. The reset inputs: host reset (R18, R19), power-on reset (R22, R185), and the negation of each. -/

namespace Sys2Proof.Machine

/-- What host reset makes of an entry: IN_MEMORY becomes ORPHAN, an ORPHAN stays, every other entry becomes FREE (R18). -/
def resetEntry (e : Option Entry) : Option Entry :=
  match e with
  | none => none
  | some e =>
    match e.route with
    | .inMemory => some { e with route := .orphan }
    | .orphan => some e
    | .issueWait => none
    | .held => none
    | .blocked => none
    | .done _ => none

/-- The three counts of HOST_RESET, from the state the reset finds (R147). -/
def State.hostResetDetail (s : State) : HostResetDetail :=
  { held := s.countRoute fun r => decide (r = .held), blocked := s.countRoute fun r => decide (r = .blocked),
    orphaned := s.countRoute fun r => decide (r = .inMemory) }

/-- The host reset event (R18, R19, R57, R74, R98, R147). -/
def State.hostResetEvent (s : State) : State :=
  (({ s with
      hreset := true, head := none, episode := false, entries := s.entries.map resetEntry,
      acceptOrder := [], issueQ := [], respQ := [], blocked := [], pool := [],
      contexts := Vector.replicate 4 none }).postHostReset s.hostResetDetail).settle

/-- HOST_RESET (R18): the assertion of HRESET#. While PRESET# is asserted the input is seen but there is no host reset
event (R185); an input that is asserted already is not asserted again (R147). -/
def execHostReset (s : State) : Out :=
  .next (if s.preset then { s with hreset := true } else if s.hreset then s else s.hostResetEvent)

/-- HRESET_NEGATION (R19). -/
def execHresetNegation (s : State) : Out := .next { s with hreset := false }

/-- POWER_ON_RESET (R22): the assertion of PRESET# gives every block its power-on values. HRESET# is an input of its own
and keeps its level (R185); commands waiting are outside the part. -/
def execPowerOnReset (s : State) : Out :=
  .next { State.reset with preset := true, hreset := s.hreset, pending := s.pending }

/-- PRESET_NEGATION (R185): the timebase starts counting (R49), the link and the H-port begin to work. -/
def execPresetNegation (s : State) : Out := .next (if s.preset then { s with preset := false, now := 0 } else s)

end Sys2Proof.Machine
end

