-- ==== Sys2Proof/Machine/HPort.lean ====
section
/-! DEFINITION. The commands of the H-port: a head request presented (R1), its acceptance (R5 to R9) and the host's take
of a response (R17). -/

namespace Sys2Proof.Machine

/-- The host presents a head request (R1). While one is presented already, or a reset input is asserted, the host has no new
head request to present, and nothing changes (R1, R19, R22; log entry 5). -/
def execHeadRequestPresented (r : Request) (s : State) : Out :=
  match s.head with
  | some _ => .next s
  | none => .next (if s.hportLive then ({ s with head := some r, episode := false }).openEpisode else s)

/-- Step 1 of acceptance: the request takes this FREE entry, with the fields found for it, at the tail of the acceptance
order; the head request leaves the H-port and its stall episode ends (R7). -/
def State.enter (s : State) (i : TransitIndex) (e : Entry) : State :=
  { s.setEntry i (some e) with acceptOrder := s.acceptOrder ++ [i], head := none, episode := false }

/-- Acceptance with a tag clash: DONE with ERROR at once, no decision, and TAG_CLASH is posted (R9). -/
def State.acceptClash (s : State) (i : TransitIndex) (r : Request) : State :=
  (((s.enter i { req := r, route := .done .error, decision := none, offset := none }).complete i .error).postTagClash
    { master := r.master, tag := r.tag })

/-- The entry of an accepted request without a clash, before its first route is found; the window table as it stands gives
its decision and its word offset (R7 steps 1 and 3, R28, R129). -/
def State.acceptedEntry (s : State) (r : Request) (route : Route) : Entry :=
  { req := r, route := route, decision := some (s.decisionFor r), offset := s.offsetFor r }

/-- Acceptance of a line-blocked request: it is counted, becomes BLOCKED and joins the tail of the blocked list (R62). -/
def State.acceptBlocked (s : State) (i : TransitIndex) (r : Request) : State :=
  let counted := s.countHitFor r
  { counted.enter i (s.acceptedEntry r .blocked) with blocked := s.blocked ++ [i] }

/-- Acceptance of any other request: it is counted and its decision carried out (R7 step 5). -/
def State.acceptDirect (s : State) (i : TransitIndex) (r : Request) : State :=
  ((s.countHitFor r).enter i (s.acceptedEntry r .issueWait)).carryOut i

/-- Acceptance of a request into a FREE entry, as one event (R7). -/
def State.accept (s : State) (i : TransitIndex) (r : Request) : State :=
  if s.clashes r then s.acceptClash i r
  else if s.lineBlocked r then s.acceptBlocked i r
  else s.acceptDirect i r

/-- The H-port's own event: the acceptance of an acceptable head request; nothing where R5 fails (R5, log entry 4). -/
def State.acceptHead (s : State) : State :=
  match s.acceptable, s.lowestFree with
  | some r, some i => (s.accept i r).settle
  | _, _ => s

/-- ACCEPTANCE (R7). -/
def execAcceptance (s : State) : Out := .next s.acceptHead

/-- The host takes the head response: its entry becomes FREE and leaves the acceptance order. With no response presented
there is nothing to take (R16, R17). -/
def execHostTake (s : State) : Out :=
  match s.presentedResponse, s.respQ with
  | some _, i :: rest =>
    .next ({ s.setEntry i none with respQ := rest, acceptOrder := s.acceptOrder.filter fun j => decide (j ≠ i) }).settle
  | _, _ => .next s

end Sys2Proof.Machine
end

