-- ==== Sys2Proof/Machine/Timers.lean ====
section
/-! DEFINITION. The expiries of the part's timers (R55, R159, R168), the completion of QUIESCE (R168), and what the part
does when no command waits: its own due event, or one tick of the 1 µs timebase (R49; log entry 3). -/

namespace Sys2Proof.Machine

/-- What an expiry makes of the entry (R55). -/
def expiryDeparture (d : Decision) (a : Access) : Departure :=
  match d.deadlineAction with
  | .release => .issue
  | .refuse => .done .error
  | .fill => .done (okResponse a d.fill)

/-- The detail of DEADLINE (R143). -/
def deadlineDetail (sl : Slot) (e : Entry) (d : Decision) : DeadlineDetail :=
  { window := d.window, cls := d.cls, master := e.req.master, addr := e.req.addr, action := d.deadlineAction,
    context := sl.context }

/-- The expiry of a held entry's deadline: DEADLINE is posted and the entry departs by its recorded action (R55). -/
def State.expire (s : State) (sl : Slot) : State :=
  match s.entry sl.entry with
  | none => s
  | some e =>
    match e.decision with
    | none => s
    | some d => ((s.postDeadline (deadlineDetail sl e d)).depart sl e (expiryDeparture d e.req.access)).settle

/-- A deadline's expiry may take place: its expiry time has come (R49). -/
def Slot.due (sl : Slot) (now : Nat) : Bool :=
  match sl.deadline with
  | some t => decide (t ≤ now)
  | none => false

/-- A deadline's expiry may not wait for another tick: it is one tick past its expiry time (R49). -/
def Slot.overdue (sl : Slot) (now : Nat) : Bool :=
  match sl.deadline with
  | some t => decide (t + 1 ≤ now)
  | none => false

/-- DEADLINE_EXPIRY (R55): takes place for a held entry whose expiry time has come, not earlier (R49), and not for an entry
with no deadline or no record (R51). -/
def execDeadlineExpiry (i : TransitIndex) (s : State) : Out :=
  match s.slotOf i with
  | none => .next s
  | some sl => .next (if sl.due s.now then s.expire sl else s)

/-- The expiry of the gap timer: a partial frame is discarded with LINK_FAULT gap, or DISCARDING ends; the link becomes
IDLE (R158, R159). -/
def State.gapExpiry (s : State) : State :=
  match s.link with
  | .receiving bytes _ => ({ s with link := .idle }).postLinkFault { kind := .gap, bytes := bytes.length }
  | .discarding _ => { s with link := .idle }
  | .idle => s
  | .executing _ _ => s
  | .responding _ _ _ => s

/-- The timebase reading from which the gap timer may expire: 1,000 µs after the last frame write (R158, R159). -/
def State.gapDue (s : State) : Option Nat :=
  match s.link with
  | .receiving _ since => some (since + Config.gapTicks)
  | .discarding since => some (since + Config.gapTicks)
  | .idle => none
  | .executing _ _ => none
  | .responding _ _ _ => none

/-- The timebase reading from which the quiesce timer may expire (R167). -/
def State.quiesceDue (s : State) : Option Nat :=
  match s.link with
  | .executing _ started => some (started + Config.quiesceTicks)
  | .idle => none
  | .receiving _ _ => none
  | .discarding _ => none
  | .responding _ _ _ => none

/-- A timer due at this reading has expired by now, at the earliest (`slack` 0) or at the latest moment (`slack` 1). -/
def reached (due : Option Nat) (now slack : Nat) : Bool :=
  match due with
  | some t => decide (t + slack ≤ now)
  | none => false

/-- GAP_TIMER_EXPIRY (R159): takes place when the timer runs and its time has come. -/
def execGapTimerExpiry (s : State) : Out := .next (if reached s.gapDue s.now 0 then s.gapExpiry else s)

/-- The expiry of the quiesce timer: QUIESCE responds TIMEOUT and the gate stays closed (R168). -/
def State.quiesceTimeout (s : State) : State :=
  match s.link with
  | .executing length _ => s.answerWith length (replyOnly .timeout)
  | .idle => s
  | .receiving _ _ => s
  | .discarding _ => s
  | .responding _ _ _ => s

/-- QUIESCE_TIMER_EXPIRY (R168): takes place when the timer runs and its time has come. -/
def execQuiesceTimerExpiry (s : State) : Out :=
  .next (if reached s.quiesceDue s.now 0 then s.quiesceTimeout else s)

/-- QUIESCE_COMPLETION (R168): the link's test, which every event that changes a route state contains, on its own. -/
def execQuiesceCompletion (s : State) : Out := .next s.quiesceTest

/-- One tick of the timebase (R49). -/
def State.tick (s : State) : State := { s with now := s.now + 1 }

/-- What the part does while no command waits for it. An acceptable head request is accepted (R5); otherwise a timer that
may wait no longer expires (R49, R159, R168), a held entry's before the link's; otherwise the timebase counts one tick. While
PRESET# is asserted the timebase does not count (R49). -/
def State.idle (s : State) : State :=
  if s.preset then s
  else if s.acceptable.isSome then s.acceptHead
  else
    match s.pool.find? fun sl => sl.overdue s.now with
    | some sl => s.expire sl
    | none =>
      if reached s.gapDue s.now 1 then s.gapExpiry
      else if reached s.quiesceDue s.now 1 then s.quiesceTimeout
      else s.tick

end Sys2Proof.Machine
end

