-- ==== Sys2Proof/Machine/Dispatch.lean ====
section
/-! DEFINITION. One arm per command: the call of its meaning. -/

namespace Sys2Proof.Machine

def exec (i : Instr) (s : State) : Host.Outcome State Fault Refusal :=
  match i with
  | .headRequestPresented r => Sys2Proof.Machine.execHeadRequestPresented r s
  | .acceptance => Sys2Proof.Machine.execAcceptance s
  | .issue => Sys2Proof.Machine.execIssue s
  | .memoryResponse idx reply => Sys2Proof.Machine.execMemoryResponse idx reply s
  | .hostTake => Sys2Proof.Machine.execHostTake s
  | .hostReset => Sys2Proof.Machine.execHostReset s
  | .hresetNegation => Sys2Proof.Machine.execHresetNegation s
  | .powerOnReset => Sys2Proof.Machine.execPowerOnReset s
  | .presetNegation => Sys2Proof.Machine.execPresetNegation s
  | .deadlineExpiry idx => Sys2Proof.Machine.execDeadlineExpiry idx s
  | .gapTimerExpiry => Sys2Proof.Machine.execGapTimerExpiry s
  | .quiesceCompletion => Sys2Proof.Machine.execQuiesceCompletion s
  | .quiesceTimerExpiry => Sys2Proof.Machine.execQuiesceTimerExpiry s
  | .frameWrite b => Sys2Proof.Machine.execFrameWrite b s
  | .frameRead => Sys2Proof.Machine.execFrameRead s
  | .abort control => Sys2Proof.Machine.execAbort control s
  | .identify => Sys2Proof.Machine.execIdentify s
  | .survey => Sys2Proof.Machine.execSurvey s
  | .writeWindow w => Sys2Proof.Machine.execWriteWindow w s
  | .readWindow index flag => Sys2Proof.Machine.execReadWindow index flag s
  | .setArbitration order nesting floor suppressed notifyOn => Sys2Proof.Machine.execSetArbitration order nesting floor suppressed notifyOn s
  | .readArbitration => Sys2Proof.Machine.execReadArbitration s
  | .take => Sys2Proof.Machine.execTake s
  | .peek ctx => Sys2Proof.Machine.execPeek ctx s
  | .release ctx ticket => Sys2Proof.Machine.execRelease ctx ticket s
  | .releaseWithData ctx ticket lanes data => Sys2Proof.Machine.execReleaseWithData ctx ticket lanes data s
  | .answer ctx ticket data => Sys2Proof.Machine.execAnswer ctx ticket data s
  | .refuse ctx ticket => Sys2Proof.Machine.execRefuse ctx ticket s
  | .extend ctx ticket code => Sys2Proof.Machine.execExtend ctx ticket code s
  | .setList list first length control => Sys2Proof.Machine.execSetList list first length control s
  | .loadCells start words => Sys2Proof.Machine.execLoadCells start words s
  | .armList list => Sys2Proof.Machine.execArmList list s
  | .disarmList list => Sys2Proof.Machine.execDisarmList list s
  | .readList list => Sys2Proof.Machine.execReadList list s
  | .drainCapture list n => Sys2Proof.Machine.execDrainCapture list n s
  | .readAttention cause => Sys2Proof.Machine.execReadAttention cause s
  | .clearAttention causes => Sys2Proof.Machine.execClearAttention causes s
  | .setAttentionEnable causes => Sys2Proof.Machine.execSetAttentionEnable causes s
  | .gate code => Sys2Proof.Machine.execGate code s
  | .quiesce => Sys2Proof.Machine.execQuiesce s
  | .softReset => Sys2Proof.Machine.execSoftReset s

end Sys2Proof.Machine
end

