-- ==== Sys2Proof/Safety.lean ====
section
/-! DEFINITION. What a sound state of the part is, in the terms of the rules that lay it down. -/

namespace Sys2Proof.Machine

/-- The route state at a transit index; `none` is FREE. -/
def State.routeAt (s : State) (i : TransitIndex) : Option Route := (s.entry i).map Entry.route

/-- Master and line of an in-use entry: the chain it would belong to (R64). -/
def State.chainOf (s : State) (i : TransitIndex) : Option (Master × BitVec 27) :=
  (s.entry i).map fun e => (e.req.master, lineOf e.req.addr)

/-- The ordered collections hold exactly the entries of their route states, without duplicates: acceptance order (R3),
issue queue (R13), response queue (R16), blocked list (R63, in acceptance order) and hold pool (R40, R42). -/
abbrev State.QueuesMatch (s : State) : Prop :=
  s.acceptOrder.Nodup ∧ (∀ i, i ∈ s.acceptOrder ↔ (s.routeAt i ≠ none ∧ s.routeAt i ≠ some .orphan)) ∧
  s.issueQ.Nodup ∧ (∀ i, i ∈ s.issueQ ↔ s.routeAt i = some .issueWait) ∧
  s.respQ.Nodup ∧ (∀ i, i ∈ s.respQ ↔ (s.routeAt i).any Route.isDone = true) ∧
  s.blocked = s.acceptOrder.filter (fun i => decide (s.routeAt i = some .blocked)) ∧
  (s.pool.map Slot.entry).Nodup ∧ (∀ i, i ∈ s.pool.map Slot.entry ↔ s.routeAt i = some .held)

/-- At most 8 entries are BLOCKED (R63) and at most 16 HELD (R40). -/
abbrev State.WithinCapacity (s : State) : Prop :=
  s.blocked.length ≤ Config.blockedPlaces ∧ s.pool.length ≤ Config.holdSlots

/-- Every HELD or BLOCKED entry carries the decision formed at its acceptance (R2, R28). -/
abbrev State.DecisionsKept (s : State) : Prop :=
  ∀ i, (s.entry i).all (fun e => !e.route.blocksLine || e.decision.isSome) = true

/-- Chains have the shape of R64: each BLOCKED entry stands behind a HELD entry of its master on its line that was accepted
before it, and no two HELD entries are of one master on one line. -/
abbrev State.ChainsShaped (s : State) : Prop :=
  (∀ j ∈ s.blocked, ∃ sl ∈ s.pool, s.chainOf sl.entry = s.chainOf j ∧
    s.acceptOrder.idxOf sl.entry < s.acceptOrder.idxOf j) ∧
  (s.pool.map fun sl => s.chainOf sl.entry).Nodup

/-- OPEN contexts and TAKEN records name one another, and a context holds its entry's class (R46, R85). -/
abbrev State.ContextsMatch (s : State) : Prop :=
  (∀ c, ∀ o ∈ s.context c, ∃ sl ∈ s.pool, sl.entry = o.entry ∧ sl.context = some c ∧
    s.classOf o.entry = some o.cls) ∧
  (∀ sl ∈ s.pool, ∀ c, sl.context = some c → ((s.context c).map OpenContext.entry) = some sl.entry)

/-- The transit table, its collections, the pool, the blocked list and the contexts agree. -/
def State.Consistent (s : State) : Prop :=
  s.QueuesMatch ∧ s.WithinCapacity ∧ s.DecisionsKept ∧ s.ChainsShaped ∧ s.ContextsMatch

/-- In NESTED mode the classes of the OPEN contexts are pairwise distinct (R84). -/
abbrev State.NestedDistinct (s : State) : Prop :=
  s.arb.nesting = .nested → (s.openContexts.map fun o => o.2.cls).Nodup

/-- Every window's base is a multiple of 2^e with e at least 2, and a LIST window's e is at most 12 (R23, R24, R31). -/
abbrev State.WindowsAligned (s : State) : Prop :=
  ∀ i : WindowIndex, 2 ≤ s.windows[i].exponent.val ∧ s.windows[i].base.toNat % 2 ^ s.windows[i].exponent.val = 0 ∧
    (s.windows[i].action = .list → s.windows[i].exponent.val ≤ 12)

/-- The descriptor of an answer list keeps within R123 and R124. -/
abbrev AnswerList.Ok (a : AnswerList) : Prop :=
  areaOk a.first a.length = true ∧ a.remaining ≤ a.length ∧ (a.state = .armed → 1 ≤ a.remaining) ∧
  (a.state = .armed → a.position + a.remaining = a.first + a.length) ∧
  (a.state = .exhausted → a.position = a.first + a.length ∧ a.remaining = 0)

/-- The descriptor of a capture list keeps within R123 and R124. -/
abbrev CaptureList.Ok (c : CaptureList) : Prop :=
  areaOk c.first c.length = true ∧ c.head < c.length ∧ c.count ≤ c.length ∧ (c.state = .armed → c.count < c.length) ∧
  (c.state = .full → c.count = c.length)

/-- List memory is in canonical form, every descriptor is within its ranges and the areas of the engaged lists are pairwise
disjoint (R121, R123, R124). -/
def State.ListsSound (s : State) : Prop :=
  cellsWf s.cells = true ∧ (∀ l : ListOrdinal, s.answerLists[l].Ok) ∧ (∀ l : ListOrdinal, s.captureLists[l].Ok) ∧
  s.engagedAreas.Pairwise (fun a b => areasMeet a b = false)

/-- A set record has from 1 to 255 occurrences (R140). -/
def occurrencesOk {α : Type} (r : Option (CauseRecord α)) : Bool :=
  r.all fun rec => decide (1 ≤ rec.occurrences) && decide (rec.occurrences ≤ Config.maxOccurrences)

/-- Every cause record is clear or has from 1 to 255 occurrences (R140). -/
def State.OccurrencesInRange (s : State) : Prop :=
  occurrencesOk s.causes.deadline = true ∧ occurrencesOk s.causes.holdFull = true ∧
  occurrencesOk s.causes.blockFull = true ∧ occurrencesOk s.causes.answerOut = true ∧
  occurrencesOk s.causes.captureFull = true ∧ occurrencesOk s.causes.refusal = true ∧
  occurrencesOk s.causes.memoryError = true ∧ occurrencesOk s.causes.tagClash = true ∧
  occurrencesOk s.causes.linkFault = true ∧ occurrencesOk s.causes.hostReset = true

/-- No timer is more than one tick past its time: a held entry's deadline (R49), the gap timer (R159) and the quiesce timer
(R167). -/
def State.TimersTimely (s : State) : Prop :=
  (∀ sl ∈ s.pool, sl.deadline.all (fun t => decide (s.now ≤ t + 1)) = true) ∧
  s.gapDue.all (fun t => decide (s.now ≤ t + 1)) = true ∧ s.quiesceDue.all (fun t => decide (s.now ≤ t + 1)) = true

/-- The link's records are those of frames: a partial frame of at least one byte that is not complete, a response of 3 to 83
bytes with at least one byte unread, a command record of L at most 80 (R155 to R158, R162). -/
def State.LinkSound (s : State) : Prop :=
  match s.link with
  | .receiving bytes _ => 1 ≤ bytes.length ∧ bytes.length ≤ 82 ∧
      (2 ≤ bytes.length → (bytes.getD 1 0).toNat ≤ 80 ∧ bytes.length < (bytes.getD 1 0).toNat + 3)
  | .responding length frame taken => length ≤ 80 ∧ 3 ≤ frame.length ∧ frame.length ≤ 83 ∧ taken < frame.length ∧
      bytesSum frame = 0
  | .executing length _ => length = 0 ∧ s.gate = .closed
  | .idle => True
  | .discarding _ => True

/-- A stall episode is in progress whenever the head request is not acceptable (R10), QUIESCE is EXECUTING only while an
entry is forwarded (R168), and no head request is presented while a reset input is asserted (R19, R22). -/
abbrev State.Settled (s : State) : Prop :=
  (s.stallReason ≠ .none → s.episode = true) ∧ (s.quiesceDue.isSome = true → s.anyForwarded = true) ∧
  (s.hportLive = false → s.head = none)

/-- The link takes a whole command frame now: PRESET# is negated and the link is IDLE (R154, R157). -/
abbrev State.LinkReady (s : State) : Prop := s.preset = false ∧ s.link = .idle

/-! ## Terms of the statements about events -/

/-- The number of transit entries of a route state (R173). -/
def State.countAt (s : State) (p : Option Route → Bool) : Nat := (List.finRange 32).countP fun i => p (s.routeAt i)

/-- What an acceptance without a tag clash leaves, but for the queue, list or pool its route joins: the request is in
entry i with its decision, counted, and the head request has left the H-port (R7). -/
def State.acceptedAs (s : State) (i : TransitIndex) (r : Request) (route : Route) : State :=
  { s with
    entries := s.entries.set i
      (some { req := r, route := route, decision := some (s.decisionFor r), offset := s.offsetFor r })
    windows := (s.countHitFor r).windows
    acceptOrder := s.acceptOrder ++ [i]
    head := none
    episode := false }

/-- The arbitration settings after the close of this context, or of none (R81, R90). -/
def State.arbAfterClose (s : State) : Option ContextIndex → Arbitration
  | none => s.arb
  | some c =>
    match s.context c, s.arb.order with
    | some o, .rotating => { s.arb with floor := o.cls }
    | some _, .fixed => s.arb
    | none, _ => s.arb

/-- What a departure that unblocks no successor leaves (R52). -/
def State.departed (s : State) (sl : Slot) (e : Entry) (dest : Departure) : State :=
  { s with
    entries := s.entries.set sl.entry (some { e with
      route := match dest with
        | .issue => .issueWait
        | .done r => .done r })
    issueQ := match dest with
      | .issue => s.issueQ ++ [sl.entry]
      | .done _ => s.issueQ
    respQ := match dest with
      | .issue => s.respQ
      | .done _ => s.respQ ++ [sl.entry]
    pool := s.pool.filter fun x => decide (x.entry ≠ sl.entry)
    contexts := match sl.context with
      | none => s.contexts
      | some c => s.contexts.set c none
    arb := s.arbAfterClose sl.context }

/-- The bytes that n frame reads drive on SD[7:0], with the state they leave (R162). -/
def State.readOut : Nat → State → List (Option Byte) × State
  | 0, s => ([], s)
  | n + 1, s => (s.readByte.sdOut :: (State.readOut n s.readByte).1, (State.readOut n s.readByte).2)

/-- The ten cause records as READ ATTENTION returns them, in cause-number order, each with its detail field by field: a clear
record as a flag of 00h, no occurrence and no detail (R140, R181). -/
def Causes.RecordLayout (k : Causes) : Prop :=
  let record {α : Type} (r : Option (CauseRecord α)) (layout : α → List Byte) : CauseView :=
    match r with
    | none => { isSet := false, occurrences := 0, detail := [] }
    | some set => { isSet := true, occurrences := set.occurrences, detail := layout set.detail }
  let address : WordAddr → List Byte := fun a => bytesOfWord (a ++ (0#2))
  let window : Option WindowIndex → Byte := fun w => match w with
    | some w => byteOf w.val
    | none => 0xFF
  let kind : Kind → Byte := fun k => match k with
    | .read => 0x00
    | .write => 0x01
  k.views = [
    record k.deadline fun d => [window d.window, byteOf d.cls.val, byteOf d.master.val] ++ address d.addr ++
      [match d.action with
        | .release => 0x00
        | .refuse => 0x01
        | .fill => 0x02,
       match d.context with
        | some c => byteOf c.val
        | none => 0xFF],
    record k.holdFull fun d => [byteOf d.master.val] ++ address d.addr ++ [window d.window],
    record k.blockFull fun d => [byteOf d.master.val] ++ address d.addr,
    record k.answerOut fun l => [byteOf l.val],
    record k.captureFull fun l => [byteOf (4 + l.val)],
    record k.refusal fun d => [window d.window, byteOf d.master.val] ++ address d.addr ++
      [kind d.kind, match d.source with
        | .window => 0x00
        | .list => 0x01],
    record k.memoryError fun d => [byteOf d.master.val, byteOf d.tag.val] ++ address d.addr ++ [kind d.kind],
    record k.tagClash fun d => [byteOf d.master.val, byteOf d.tag.val],
    record k.linkFault fun d => [match d.kind with
        | .gap => 0x00
        | .overlong => 0x01
        | .writeWhileBusy => 0x02,
       byteOf d.bytes],
    record k.hostReset fun d => [byteOf d.held, byteOf d.blocked, byteOf d.orphaned]]

/-- The lowest-numbered FREE transit entry (R3). -/
abbrev State.IsLowestFree (s : State) (i : TransitIndex) : Prop := s.entry i = none ∧ ∀ j < i, s.entry j ≠ none

/-- A run of cells shares no cell with the area of an engaged list (R122, R124). -/
abbrev State.ClearOfEngaged (s : State) (start n : Nat) : Prop :=
  (∀ l : ListOrdinal, s.answerLists[l].state ≠ .idle →
    start + n ≤ s.answerLists[l].first ∨ s.answerLists[l].first + s.answerLists[l].length ≤ start) ∧
  (∀ l : ListOrdinal, s.captureLists[l].state ≠ .idle →
    start + n ≤ s.captureLists[l].first ∨ s.captureLists[l].first + s.captureLists[l].length ≤ start)

/-- While PRESET# is asserted the part holds its power-on values (R22). -/
abbrev State.PresetHolds (s : State) : Prop :=
  s.preset = true → s = { State.reset with preset := true, hreset := s.hreset, pending := s.pending }

end Sys2Proof.Machine
end

