-- ==== Sys2Proof/WellFormed.lean ====
section
/-! DEFINITION. Well-formed commands. Every operand but one is of a type that admits exactly the values its pins or its
payload bytes admit, so the only check left is the number of words of LOAD CELLS. -/

namespace Sys2Proof

/-- A run of LOAD CELLS is 1 to 12 data words (R122, R160 test 3, R180). -/
def loadRunOk (words : List Word) : Bool :=
  decide (1 ≤ words.length) && decide (words.length ≤ 12)

/-- The command is one whose operands the part's interfaces can carry to it as that command. -/
def Instr.wf : Instr → Bool
  | .loadCells _ words => loadRunOk words
  | _ => true

end Sys2Proof
end

