-- ==== Sys2Proof/Certificates/Slice0/Obligations.lean ====
section
/-! DEFINITION. The statements about the model, in the order of OBLIGATIONS.json. Each docstring names the rules of spec/ that
the statement rests on; the witnesses of their hypotheses are in Sys2Proof/Tests/Slice0.lean. -/

open Sys2Proof Sys2Proof.Machine

/-! ## Steps, resets and the H-port -/

/-- A step with a command at the front of the queue is that command's effect on the state with the queue's rest. -/
def Obligations.StepRunsTheFrontCommand : Prop :=
  ∀ (c : Instr) (rest : List Instr) (s : State),
    step { s with pending := c :: rest } = exec c { s with pending := rest }

/-- What a step does with no command waiting: nothing while PRESET# is asserted; the acceptance of an acceptable head
request; the expiry of the deadline, oldest hold first, that is one tick past its time; with no such deadline the expiry of the
gap timer or of the quiesce timer that is; and one tick where nothing is. The model's choice of how time passes (log entry 3),
within R5, R49, R159 and R167. -/
def Obligations.EmptyQueueStep : Prop :=
  ∀ s : State, s.pending = [] →
    (s.preset = true → step s = .next s) ∧
    (s.preset = false → s.acceptable ≠ none → step s = exec .acceptance s) ∧
    (s.preset = false → s.acceptable = none → (∃ sl ∈ s.pool, ∃ t ∈ sl.deadline, t + 1 ≤ s.now) →
      ∃ before sl after, s.pool = before ++ sl :: after ∧ (∃ t ∈ sl.deadline, t + 1 ≤ s.now) ∧
        (∀ x ∈ before, ∀ t ∈ x.deadline, s.now ≤ t) ∧ step s = .next (s.expire sl)) ∧
    (s.preset = false → s.acceptable = none → (∀ sl ∈ s.pool, ∀ t ∈ sl.deadline, s.now ≤ t) →
      (∀ t, s.gapDue = some t → t + 1 ≤ s.now → step s = exec .gapTimerExpiry s) ∧
      (∀ t, s.quiesceDue = some t → t + 1 ≤ s.now → step s = exec .quiesceTimerExpiry s)) ∧
    (s.preset = false → s.acceptable = none → (∀ sl ∈ s.pool, ∀ t ∈ sl.deadline, s.now ≤ t) →
      (∀ t ∈ s.gapDue, s.now ≤ t) → (∀ t ∈ s.quiesceDue, s.now ≤ t) →
      step s = .next { s with now := s.now + 1 })

/-- The assertion of PRESET# gives every block its power-on values, whatever the state before it (R22, R37, R59, R76, R100,
R136, R152, R155); its status byte reads 00h once PRESET# is negated (R183). That HRESET# keeps its level is log entry 10;
that reset is that state with both reset inputs negated is the model's choice (log entry 2). -/
def Obligations.PowerOnResetValues : Prop :=
  ∀ s : State, ∃ t, exec .powerOnReset s = .next t ∧
    t.preset = true ∧ t.hreset = s.hreset ∧ t.pending = s.pending ∧
    t.head = none ∧ t.episode = false ∧ t.stallReason = .none ∧ t.presentedResponse = none ∧ t.presentedIssue = none ∧
    (∀ i, t.entry i = none) ∧ t.acceptOrder = [] ∧ t.issueQ = [] ∧ t.respQ = [] ∧ t.blocked = [] ∧ t.pool = [] ∧
    (∀ i : WindowIndex, t.windows[i] =
      { valid := false, base := 0, exponent := 2, filter := .both, masters := 0, action := .pass, cls := 0,
        deadlineCode := 0, deadlineAction := .release, fill := 0, readList := none, writeList := none, hits := 0 }) ∧
    t.arb = { order := .fixed, nesting := .nested, floor := 5, suppressed := 0, notifyOn := true } ∧
    t.ticket = 0 ∧ (∀ c, t.context c = none) ∧ t.notify = false ∧
    (∀ n, readCell t.cells n = { data := 0, lanes := 0, master := 0, offset := 0 }) ∧
    (∀ l : ListOrdinal, t.answerLists[l] =
      { first := 0, length := 1, exhaustion := .pass, reload := false, state := .idle, position := 0, remaining := 0 }) ∧
    (∀ l : ListOrdinal, t.captureLists[l] =
      { first := 0, length := 1, exhaustion := .pass, state := .idle, head := 0, count := 0 }) ∧
    t.causes.setBits = 0 ∧ t.enabled = 0 ∧ t.attn = false ∧ t.link = .idle ∧ t.gate = .opened ∧
    State.reset = { t with preset := false, hreset := false, pending := [] } ∧ State.reset.linkStatusByte = 0

/-- The negation of each reset input. PRESET# negated starts the timebase; with HRESET# still asserted then, the part has
its power-on values, no cause is set and the H-port stays shut until HRESET# is negated, which changes nothing else
(R19, R49, R185). The model's own: counting the timebase from 0 (log entry 8), no change at the negation of an input that is
not asserted (log entry 10), and none for a head request presented under HRESET# (log entry 5). -/
def Obligations.ResetInputsNegated : Prop :=
  (∀ s : State, s.preset = true → exec .presetNegation s = .next { s with preset := false, now := 0 }) ∧
  (∀ s : State, s.preset = false → exec .presetNegation s = .next s) ∧
  (∀ s : State, exec .hresetNegation s = .next { s with hreset := false }) ∧
  (∀ (s : State) (r : Request), s.preset = true → s.hreset = true → s.PresetHolds →
    ∃ t, exec .presetNegation s = .next t ∧ t = { State.reset with hreset := true, pending := s.pending } ∧
      t.causes = Causes.clear ∧ t.stallReason = .none ∧ t.presentedResponse = none ∧
      exec (.headRequestPresented r) t = .next t ∧ exec .acceptance t = .next t)

/-- The host reset event frees or orphans every entry by its route state, empties the queues, the pool, the blocked list
and the contexts, posts HOST_RESET with the three counts found, and leaves every other block as it stands; a QUIESCE waiting
for no entry but those freed completes with three counts of 0 (R18, R19, R57, R74, R98, R138, R147, R168). HRESET# asserted
while PRESET# is asserted is no host reset event (R185), and HRESET# held asserted is one (R147, log entry 10). -/
def Obligations.HostResetEvent : Prop :=
  (∀ s : State, s.preset = false → s.hreset = false →
     ∃ t, exec .hostReset s = .next t ∧
       (∀ i e, s.entry i = some e → e.route = .inMemory → t.entry i = some { e with route := .orphan }) ∧
       (∀ i e, s.entry i = some e → e.route = .orphan → t.entry i = some e) ∧
       (∀ i, s.routeAt i ≠ some .inMemory → s.routeAt i ≠ some .orphan → t.entry i = none) ∧
       t.acceptOrder = [] ∧ t.issueQ = [] ∧ t.respQ = [] ∧ t.pool = [] ∧ t.blocked = [] ∧ (∀ c, t.context c = none) ∧
       t.hreset = true ∧ t.head = none ∧ t.episode = false ∧ t.stallReason = .none ∧ t.presentedResponse = none ∧
       t.causes = { s.causes with
         hostReset := post s.causes.hostReset
           { held := s.countAt fun r => decide (r = some .held), blocked := s.countAt fun r => decide (r = some .blocked),
             orphaned := s.countAt fun r => decide (r = some .inMemory) } } ∧
       t.windows = s.windows ∧ t.arb = s.arb ∧ t.ticket = s.ticket ∧ t.cells = s.cells ∧
       t.answerLists = s.answerLists ∧ t.captureLists = s.captureLists ∧ t.enabled = s.enabled ∧ t.gate = s.gate ∧
       t.now = s.now ∧ t.preset = false ∧ t.sdOut = s.sdOut ∧ t.pending = s.pending ∧
       (s.quiesceDue = none ∨ (∃ i, s.routeAt i = some .inMemory ∨ s.routeAt i = some .orphan) → t.link = s.link) ∧
       (∀ L started, s.link = .executing L started →
         (∀ i, s.routeAt i ≠ some .inMemory ∧ s.routeAt i ≠ some .orphan) →
         t.link = .responding L [0x00, 0x03, 0x00, 0x00, 0x00, 0xFD] 0)) ∧
  (∀ s : State, s.preset = true → exec .hostReset s = .next { s with hreset := true }) ∧
  (∀ s : State, s.preset = false → s.hreset = true → exec .hostReset s = .next s)

/-- A head request presented at a working H-port is the head request, and begins a stall episode with its posting exactly
where a condition of R5 fails (R1, R10, R11); with a head request presented already, or a reset input asserted, there is no
new head request (R1, R19, R22; log entry 5). -/
def Obligations.HeadRequestPresented : Prop :=
  ∀ (s : State) (r : Request),
    (s.head = none → s.hportLive = true →
      (s.obstacle r = .none →
        exec (.headRequestPresented r) s = .next { s with head := some r, episode := false }) ∧
      (s.obstacle r = .gate ∨ s.obstacle r = .transit →
        exec (.headRequestPresented r) s = .next { s with head := some r, episode := true }) ∧
      (s.obstacle r = .hold →
        exec (.headRequestPresented r) s = .next { s with
          head := some r, episode := true,
          causes := { s.causes with
            holdFull := post s.causes.holdFull { master := r.master, addr := r.addr, window := s.selectWindow r } } }) ∧
      (s.obstacle r = .block →
        exec (.headRequestPresented r) s = .next { s with
          head := some r, episode := true,
          causes := { s.causes with blockFull := post s.causes.blockFull { master := r.master, addr := r.addr } } })) ∧
    (s.head ≠ none ∨ s.hportLive = false → exec (.headRequestPresented r) s = .next s)

/-- The stall reason is the first condition of R10 that applies, and none exactly when the head request is acceptable, that
is when the four conditions of R5 hold; it is none with no head request, or with a reset input asserted (R5, R10, R19). -/
def Obligations.StallReasonOrder : Prop :=
  (∀ (s : State) (r : Request), s.head = some r → s.hportLive = true →
    (s.stallReason = .gate ↔ s.gate = .closed) ∧
    (s.stallReason = .transit ↔ s.gate = .opened ∧ ∀ i, s.entry i ≠ none) ∧
    (s.stallReason = .block ↔ s.gate = .opened ∧ (∃ i, s.entry i = none) ∧ s.prospect r = .blocked ∧
      8 ≤ s.blocked.length) ∧
    (s.stallReason = .hold ↔ s.gate = .opened ∧ (∃ i, s.entry i = none) ∧ s.prospect r = .hold ∧
      16 ≤ s.pool.length) ∧
    (s.stallReason = .none ↔ s.gate = .opened ∧ (∃ i, s.entry i = none) ∧
      (s.prospect r = .blocked → s.blocked.length < 8) ∧ (s.prospect r = .hold → s.pool.length < 16)) ∧
    (s.acceptable = some r ↔ s.stallReason = .none)) ∧
  (∀ s : State, s.head = none ∨ s.hportLive = false → s.stallReason = .none ∧ s.acceptable = none)

/-- The prospective outcome of a request is found from the state as R6 lists it: clash, BLOCKED, hold, and direct in every
other case. -/
def Obligations.ProspectiveOutcome : Prop :=
  ∀ (s : State) (r : Request),
    (s.prospect r = .clash ↔ ∃ i e, s.entry i = some e ∧ e.route ≠ .orphan ∧ e.req.master = r.master ∧
      e.req.tag = r.tag) ∧
    (s.prospect r = .blocked ↔ s.prospect r ≠ .clash ∧ ∃ i e, s.entry i = some e ∧
      (e.route = .held ∨ e.route = .blocked) ∧ e.req.master = r.master ∧ lineOf e.req.addr = lineOf r.addr) ∧
    (s.prospect r = .hold ↔ s.prospect r ≠ .clash ∧ s.prospect r ≠ .blocked ∧
      ((s.decisionFor r).action = .trap ∨
       ((s.decisionFor r).action = .list ∧
        ((r.access = .read ∧ ∃ l, (s.decisionFor r).readList = some l ∧ s.answerLists[l].state ≠ .armed ∧
            s.answerLists[l].exhaustion = .trap) ∨
         (r.access ≠ .read ∧ ∃ l, (s.decisionFor r).writeList = some l ∧ s.captureLists[l].state ≠ .armed ∧
            s.captureLists[l].exhaustion = .trap)))))

/-- The selected window is the lowest-numbered valid window whose range, filter and master set take the request; it gives
the decision, its hit counter alone counts, saturating at 65,535, and the word offset of a LIST decision is the distance
from its base in words (R24, R25, R26, R28, R30, R129). -/
def Obligations.WindowSelection : Prop :=
  ∀ (s : State) (r : Request),
    let takes : WindowIndex → Prop := fun i =>
      s.windows[i].valid = true ∧ s.windows[i].base.toNat ≤ 4 * r.addr.toNat ∧
      4 * r.addr.toNat < s.windows[i].base.toNat + 2 ^ s.windows[i].exponent.val ∧
      (s.windows[i].filter = .both ∨ (s.windows[i].filter = .reads ∧ r.access = .read) ∨
        (s.windows[i].filter = .writes ∧ r.access ≠ .read)) ∧
      s.windows[i].masters.getLsbD r.master.val = true
    (∀ i, s.selectWindow r = some i ↔ takes i ∧ ∀ j < i, ¬ takes j) ∧
    (s.selectWindow r = none ↔ ∀ i, ¬ takes i) ∧
    (∀ i, s.selectWindow r = some i →
      s.decisionFor r =
        { window := some i, action := s.windows[i].action, cls := s.windows[i].cls,
          deadlineCode := s.windows[i].deadlineCode, deadlineAction := s.windows[i].deadlineAction,
          fill := s.windows[i].fill, readList := s.windows[i].readList, writeList := s.windows[i].writeList } ∧
      s.countHitFor r =
        { s with windows := s.windows.set i { s.windows[i] with
            hits := if s.windows[i].hits = 0xFFFF then 0xFFFF else s.windows[i].hits + 1 } } ∧
      (s.windows[i].action ≠ .list → s.offsetFor r = none) ∧
      (s.windows[i].action = .list → s.WindowsAligned →
        ∃ n, s.offsetFor r = some n ∧ s.windows[i].base.toNat + 4 * n.toNat = 4 * r.addr.toNat)) ∧
    (s.selectWindow r = none →
      s.decisionFor r =
        { window := none, action := .pass, cls := 0, deadlineCode := 0, deadlineAction := .release, fill := 0,
          readList := none, writeList := none } ∧
      s.countHitFor r = s ∧ s.offsetFor r = none)

/-- Acceptance takes the lowest-numbered FREE entry for the head request, at the tail of the acceptance order, ends the
stall and touches no other entry (R3, R7); with no acceptable head request there is no acceptance (R5; log entry 4). -/
def Obligations.AcceptanceTakesTheLowestFreeEntry : Prop :=
  (∀ (s : State) (r : Request), s.acceptable = some r →
    ∃ i e t, s.IsLowestFree i ∧ exec .acceptance s = .next t ∧ t.entry i = some e ∧ e.req = r ∧
      t.acceptOrder = s.acceptOrder ++ [i] ∧ t.head = none ∧ t.episode = false ∧
      (∀ j, j ≠ i → t.entry j = s.entry j) ∧
      t.arb = s.arb ∧ t.ticket = s.ticket ∧ t.contexts = s.contexts ∧ t.enabled = s.enabled ∧ t.gate = s.gate ∧
      t.now = s.now ∧ t.preset = s.preset ∧ t.hreset = s.hreset ∧ t.sdOut = s.sdOut ∧ t.pending = s.pending ∧
      (s.quiesceDue = none → t.link = s.link)) ∧
  (∀ s : State, s.acceptable = none → exec .acceptance s = .next s)

/-- Two requests whose decision is not carried out at acceptance. One with a tag clash is DONE with ERROR at once: no
decision, no count, no list, no line test, and TAG_CLASH is posted with its master and tag (R9). A line-blocked one is BLOCKED
whatever its decision: decided and counted, at the tail of the blocked list, with no list served, no hold, no issue, no answer
and no cause posted (R62, R63). -/
def Obligations.AcceptanceOfAClashOrALineBlockedRequest : Prop :=
  (∀ (s : State) (r : Request) (i : TransitIndex), s.LinkSound → s.acceptable = some r → s.IsLowestFree i →
     s.prospect r = .clash →
     exec .acceptance s = .next { s with
       entries := s.entries.set i (some { req := r, route := .done .error, decision := none, offset := none })
       acceptOrder := s.acceptOrder ++ [i]
       respQ := s.respQ ++ [i]
       head := none
       episode := false
       causes := { s.causes with tagClash := post s.causes.tagClash { master := r.master, tag := r.tag } } }) ∧
  (∀ (s : State) (r : Request) (i : TransitIndex), s.LinkSound → s.acceptable = some r → s.IsLowestFree i →
     s.prospect r = .blocked →
     exec .acceptance s = .next { s.acceptedAs i r .blocked with blocked := s.blocked ++ [i] })

/-- Any other request has its decision carried out at its acceptance: PASS joins the issue queue, REFUSE is DONE with ERROR
and posts REFUSAL, TRAP is HELD with a WAITING record whose deadline starts now, LIST is served by the list unit (R7, R8,
R43, R48). -/
def Obligations.AcceptanceCarriesOutTheDecision : Prop :=
  ∀ (s : State) (r : Request) (i : TransitIndex), s.LinkSound → s.acceptable = some r → s.IsLowestFree i →
    s.prospect r = .direct ∨ s.prospect r = .hold →
    ((s.decisionFor r).action = .pass →
      exec .acceptance s = .next { s.acceptedAs i r .issueWait with issueQ := s.issueQ ++ [i] }) ∧
    ((s.decisionFor r).action = .refuse →
      exec .acceptance s = .next { s.acceptedAs i r (.done .error) with
        respQ := s.respQ ++ [i]
        causes := { s.causes with
          refusal := post s.causes.refusal
            { window := (s.decisionFor r).window, master := r.master, addr := r.addr, kind := kindOf r.access,
              source := .window } } }) ∧
    ((s.decisionFor r).action = .trap →
      exec .acceptance s = .next { s.acceptedAs i r .held with
        pool := s.pool ++ [{
          entry := i
          heldSince := s.now
          deadline := if (s.decisionFor r).deadlineCode = 0 then none
            else some (s.now + 2 ^ ((s.decisionFor r).deadlineCode.val + 1))
          how := .trapWindow
          context := none }] }) ∧
    ((s.decisionFor r).action = .list →
      exec .acceptance s = .next ((s.acceptedAs i r .issueWait).carryOut i))

/-! ## List service -/

/-- Service by an ARMED list. A READ is DONE with the word at the answer list's position, and the list advances: to the next
word, to its first cell again with reload on, or to EXHAUSTED with ANSWER_OUT posted (R130). A WRITE is recorded in the cell
after the capture list's newest record, wrapping within the area, and is DONE with OK; at count = length the list is FULL and
CAPTURE_FULL is posted; the cell written reads back as the record and every other cell as before (R131). -/
def Obligations.ArmedListServes : Prop :=
  (∀ (s : State) (i : TransitIndex) (e : Entry) (d : Decision) (l : ListOrdinal),
     s.entry i = some e → e.decision = some d → d.action = .list → e.req.access = .read → d.readList = some l →
     s.answerLists[l].state = .armed → s.answerLists[l].Ok →
     let a : AnswerList := s.answerLists[l]
     let word := (readCell s.cells a.position).data
     let done := s.entries.set i (some { e with route := .done (.okWord word) })
     (2 ≤ a.remaining → s.carryOut i = { s with
       entries := done, respQ := s.respQ ++ [i],
       answerLists := s.answerLists.set l { a with position := a.position + 1, remaining := a.remaining - 1 } }) ∧
     (a.remaining = 1 → a.reload = true → s.carryOut i = { s with
       entries := done, respQ := s.respQ ++ [i],
       answerLists := s.answerLists.set l { a with position := a.first, remaining := a.length } }) ∧
     (a.remaining = 1 → a.reload = false → s.carryOut i = { s with
       entries := done, respQ := s.respQ ++ [i],
       answerLists := s.answerLists.set l
         { a with state := .exhausted, position := a.first + a.length, remaining := 0 },
       causes := { s.causes with answerOut := post s.causes.answerOut l } })) ∧
  (∀ (s : State) (i : TransitIndex) (e : Entry) (d : Decision) (l : ListOrdinal) (data : Word) (offset : BitVec 10),
     s.entry i = some e → e.decision = some d → d.action = .list → e.req.access = .write data → d.writeList = some l →
     e.offset = some offset → s.captureLists[l].state = .armed → s.captureLists[l].Ok → cellsWf s.cells = true →
     let c : CaptureList := s.captureLists[l]
     let cell := c.first + (c.head + c.count) % c.length
     let t := s.carryOut i
     t = { s with
       entries := s.entries.set i (some { e with route := .done .ok })
       respQ := s.respQ ++ [i]
       cells := t.cells
       captureLists := s.captureLists.set l
         { c with count := c.count + 1, state := if c.count + 1 = c.length then .full else .armed }
       causes := if c.count + 1 = c.length then { s.causes with captureFull := post s.causes.captureFull l }
         else s.causes } ∧
     readCell t.cells cell = { data := data, lanes := e.req.lanes, master := e.req.master, offset := offset } ∧
     (∀ n, n ≠ cell → readCell t.cells n = readCell s.cells n) ∧ cellsWf t.cells = true)

/-- A recorded decision carried out, at acceptance or at unblocking: PASS is forwarded, REFUSE is DONE with ERROR and posts
REFUSAL with source window, TRAP is held (R8, R70). A LIST request that its list cannot serve meets the exhaustion action and
the list does not change; with no list for its kind it is forwarded (R129, R133). -/
def Obligations.DecisionCarriedOut : Prop :=
  (∀ (s : State) (i : TransitIndex) (e : Entry) (d : Decision), s.entry i = some e → e.decision = some d →
     (d.action = .pass → s.carryOut i = { s with
       entries := s.entries.set i (some { e with route := .issueWait }), issueQ := s.issueQ ++ [i] }) ∧
     (d.action = .refuse → s.carryOut i = { s with
       entries := s.entries.set i (some { e with route := .done .error })
       respQ := s.respQ ++ [i]
       causes := { s.causes with
         refusal := post s.causes.refusal
           { window := d.window, master := e.req.master, addr := e.req.addr, kind := kindOf e.req.access,
             source := .window } } }) ∧
     (d.action = .trap → s.carryOut i = { s with
       entries := s.entries.set i (some { e with route := .held })
       pool := s.pool ++ [{
         entry := i
         heldSince := s.now
         deadline := if d.deadlineCode = 0 then none else some (s.now + 2 ^ (d.deadlineCode.val + 1))
         how := .trapWindow
         context := none }] })) ∧
  (∀ (s : State) (i : TransitIndex) (e : Entry) (d : Decision),
     s.entry i = some e → e.decision = some d → d.action = .list →
     let forwarded := { s with
       entries := s.entries.set i (some { e with route := .issueWait }), issueQ := s.issueQ ++ [i] }
     let held := { s with
       entries := s.entries.set i (some { e with route := .held })
       pool := s.pool ++ [{
         entry := i
         heldSince := s.now
         deadline := if d.deadlineCode = 0 then none else some (s.now + 2 ^ (d.deadlineCode.val + 1))
         how := .listFallback
         context := none }] }
     let refused := { s with
       entries := s.entries.set i (some { e with route := .done .error })
       respQ := s.respQ ++ [i]
       causes := { s.causes with
         refusal := post s.causes.refusal
           { window := d.window, master := e.req.master, addr := e.req.addr, kind := kindOf e.req.access,
             source := .list } } }
     (e.req.access = .read →
       (d.readList = none → s.carryOut i = forwarded) ∧
       (∀ l, d.readList = some l → s.answerLists[l].state ≠ .armed →
         (s.answerLists[l].exhaustion = .pass → s.carryOut i = forwarded) ∧
         (s.answerLists[l].exhaustion = .trap → s.carryOut i = held) ∧
         (s.answerLists[l].exhaustion = .refuse → s.carryOut i = refused))) ∧
     (e.req.access ≠ .read →
       (d.writeList = none → s.carryOut i = forwarded) ∧
       (∀ l, d.writeList = some l → s.captureLists[l].state ≠ .armed →
         (s.captureLists[l].exhaustion = .pass → s.carryOut i = forwarded) ∧
         (s.captureLists[l].exhaustion = .trap → s.carryOut i = held) ∧
         (s.captureLists[l].exhaustion = .refuse → s.carryOut i = refused))))

/-! ## Memory and responses -/

/-- The M-port presents the head of the issue queue with its request, and the issue event makes it IN_MEMORY and takes it
off the queue (R14); while PRESET# is asserted it presents nothing (R22). That an issue with nothing presented changes nothing
is the model's reading (log entry 4). -/
def Obligations.IssueTakesTheHeadOfTheIssueQueue : Prop :=
  (∀ (s : State) (i : TransitIndex) (rest : List TransitIndex) (e : Entry),
    s.preset = false → s.Settled → s.issueQ = i :: rest → s.entry i = some e → e.route = .issueWait →
    s.presentedIssue = some (i, e.req) ∧
    exec .issue s = .next { s with
      entries := s.entries.set i (some { e with route := .inMemory }), issueQ := rest }) ∧
  (∀ s : State, s.preset = true ∨ s.issueQ = [] → s.presentedIssue = none ∧ exec .issue s = .next s)

/-- A memory response is applied by the route state of the entry it names: IN_MEMORY becomes DONE, with MEMORY_ERROR posted
for status ERROR; ORPHAN becomes FREE; in every other state the response is ignored (R15). The tests that close every event
(R10, R168) follow it. -/
def Obligations.MemoryResponseByRouteState : Prop :=
  ∀ (s : State) (i : TransitIndex),
    (∀ e, s.entry i = some e → e.route = .inMemory →
      (∀ w, e.req.access = .read → exec (.memoryResponse i (.ok w)) s = .next ({ s with
        entries := s.entries.set i (some { e with route := .done (.okWord w) }), respQ := s.respQ ++ [i] }).settle) ∧
      (∀ w, e.req.access ≠ .read → exec (.memoryResponse i (.ok w)) s = .next ({ s with
        entries := s.entries.set i (some { e with route := .done .ok }), respQ := s.respQ ++ [i] }).settle) ∧
      exec (.memoryResponse i .error) s = .next ({ s with
        entries := s.entries.set i (some { e with route := .done .error })
        respQ := s.respQ ++ [i]
        causes := { s.causes with
          memoryError := post s.causes.memoryError
            { master := e.req.master, tag := e.req.tag, addr := e.req.addr, kind := kindOf e.req.access } } }).settle) ∧
    (s.routeAt i = some .orphan → ∀ reply,
      exec (.memoryResponse i reply) s = .next ({ s with entries := s.entries.set i none }).settle) ∧
    (s.routeAt i ≠ some .inMemory → s.routeAt i ≠ some .orphan → ∀ reply,
      exec (.memoryResponse i reply) s = .next s)

/-- The H-port presents the head of the response queue: master, tag, status, and the read data of a READ answered OK, else
0; the host's take frees its entry, which leaves the acceptance order (R16, R17); while a reset input is asserted it presents
none (R19, R22). That a take with none presented changes nothing is the model's reading (log entry 4). -/
def Obligations.HostTakeFreesTheHeadResponse : Prop :=
  (∀ (s : State) (i : TransitIndex) (rest : List TransitIndex) (e : Entry) (r : Response),
    s.hportLive = true → s.respQ = i :: rest → s.entry i = some e → e.route = .done r →
    s.presentedResponse = some
      { master := e.req.master, tag := e.req.tag, ok := decide (r ≠ .error),
        data := match r with
          | .okWord w => w
          | .ok => 0
          | .error => 0 } ∧
    exec .hostTake s = .next ({ s with
      entries := s.entries.set i none
      respQ := rest
      acceptOrder := s.acceptOrder.filter fun j => decide (j ≠ i) }).settle) ∧
  (∀ s : State, s.hportLive = false ∨ s.respQ = [] → s.presentedResponse = none ∧ exec .hostTake s = .next s)

/-- QUIESCE completes exactly when the link is EXECUTING and no entry is ISSUE_WAIT, IN_MEMORY or ORPHAN, with the counts of
HELD, BLOCKED and DONE entries (R168). At the end of an event a stall episode begins exactly where the head request is not
acceptable and none is in progress, and posts HOLD_FULL or BLOCK_FULL by its first reason and nothing for gate or transit
(R10, R11). The model's reading: the event's end makes the test of QUIESCE first and then the H-port's, and the row
QUIESCE_COMPLETION is the first of these on its own (log entry 6), which changes nothing elsewhere (log entry 4). -/
def Obligations.EndOfEventTests : Prop :=
  (∀ (s : State) (L started : Nat), s.link = .executing L started →
    (∀ i, s.routeAt i ≠ some .issueWait ∧ s.routeAt i ≠ some .inMemory ∧ s.routeAt i ≠ some .orphan) →
    exec .quiesceCompletion s = .next (s.answerWith L (replyOk
      [byteOf (s.countAt fun r => decide (r = some Route.held)), byteOf (s.countAt fun r => decide (r = some Route.blocked)),
       byteOf (s.countAt fun r => r.any Route.isDone)]))) ∧
  (∀ s : State, s.quiesceDue = none ∨
      (∃ i, s.routeAt i = some .issueWait ∨ s.routeAt i = some .inMemory ∨ s.routeAt i = some .orphan) →
    exec .quiesceCompletion s = .next s) ∧
  (∀ s t : State, exec .quiesceCompletion s = .next t → s.settle = t.openEpisode) ∧
  (∀ s : State,
     (s.head = none ∨ s.episode = true ∨ s.stallReason = .none → s.openEpisode = s) ∧
     (s.episode = false → s.stallReason = .gate ∨ s.stallReason = .transit →
       s.openEpisode = { s with episode := true }) ∧
     (∀ r, s.head = some r → s.episode = false → s.stallReason = .hold → s.openEpisode = { s with
       episode := true
       causes := { s.causes with
         holdFull := post s.causes.holdFull { master := r.master, addr := r.addr, window := s.selectWindow r } } }) ∧
     (∀ r, s.head = some r → s.episode = false → s.stallReason = .block → s.openEpisode = { s with
       episode := true
       causes := { s.causes with
         blockFull := post s.causes.blockFull { master := r.master, addr := r.addr } } }))

/-! ## Held transactions -/

/-- The expiry of a held entry's deadline posts DEADLINE and departs the entry by its recorded deadline action; it does not
take place before the expiry time, nor for an entry without a record or a deadline (R49, R51, R55; the row then changes
nothing, log entry 4). -/
def Obligations.DeadlineExpiryDeparts : Prop :=
  (∀ (s : State) (i : TransitIndex) (sl : Slot) (e : Entry) (d : Decision) (t : Nat),
    s.slotOf i = some sl → s.entry i = some e → e.decision = some d → sl.deadline = some t → t ≤ s.now →
    let posted := { s with
      causes := { s.causes with
        deadline := post s.causes.deadline
          { window := d.window, cls := d.cls, master := e.req.master, addr := e.req.addr, action := d.deadlineAction,
            context := sl.context } } }
    (d.deadlineAction = .release →
      exec (.deadlineExpiry i) s = .next (posted.depart sl e .issue).settle) ∧
    (d.deadlineAction = .refuse →
      exec (.deadlineExpiry i) s = .next (posted.depart sl e (.done .error)).settle) ∧
    (d.deadlineAction = .fill → e.req.access = .read →
      exec (.deadlineExpiry i) s = .next (posted.depart sl e (.done (.okWord d.fill))).settle) ∧
    (d.deadlineAction = .fill → e.req.access ≠ .read →
      exec (.deadlineExpiry i) s = .next (posted.depart sl e (.done .ok)).settle)) ∧
  (∀ (s : State) (i : TransitIndex),
    (∀ sl, s.slotOf i = some sl → ∀ t ∈ sl.deadline, s.now < t) → exec (.deadlineExpiry i) s = .next s)

/-- A departure that finds no BLOCKED entry of the same master on the same line removes the record, gives the entry its
route and queue place, closes the context it was TAKEN in, moves the floor in ROTATING mode alone, and changes nothing else
(R52, R81, R90). -/
def Obligations.DepartureWithoutSuccessors : Prop :=
  ∀ (s : State) (sl : Slot) (e : Entry) (dest : Departure),
    s.entry sl.entry = some e →
    (∀ j ∈ s.blocked, s.chainOf j ≠ some (e.req.master, lineOf e.req.addr)) →
    s.depart sl e dest = s.departed sl e dest

/-- A departure and its unblocking walk. The BLOCKED entries of the departing entry's master and line are examined oldest
first: each leaves the blocked list and its recorded decision is carried out, as at acceptance, on the part as the one before
left it, to the first that becomes HELD (R52, R53, R69, R70); `State.carryOut` is what DecisionCarriedOut and ArmedListServes
state. So the departing entry precedes its successors in the queues, they keep their order, no other entry changes, and the
successor that is held takes the slot with a record of its own at the tail of the pool, how held by its recorded action
(R44, R63, R70). -/
def Obligations.DepartureRunsTheWalk : Prop :=
  ∀ (s : State) (sl : Slot) (e : Entry) (dest : Departure),
    s.Consistent → sl ∈ s.pool → s.entry sl.entry = some e →
    let chain := s.blocked.filter fun j => decide (s.chainOf j = some (e.req.master, lineOf e.req.addr))
    let left := s.pool.filter fun x => decide (x.entry ≠ sl.entry)
    let t := s.depart sl e dest
    ∃ examined behind, chain = examined ++ behind ∧
      t = examined.foldl (fun u j => ({ u with blocked := u.blocked.filter fun k => decide (k ≠ j) }).carryOut j)
        (s.departed sl e dest) ∧
      t.blocked = s.blocked.filter (fun j => decide (j ∉ examined)) ∧
      t.issueQ = s.issueQ ++ (sl.entry :: examined).filter (fun j => decide (t.routeAt j = some .issueWait)) ∧
      t.respQ = s.respQ ++ (sl.entry :: examined).filter (fun j => (t.routeAt j).any Route.isDone) ∧
      (∀ j, j ≠ sl.entry → j ∉ examined → t.entry j = s.entry j) ∧
      (∀ j ∈ examined, ∃ route, t.entry j = (s.entry j).map fun x => { x with route := route }) ∧
      (∀ j ∈ examined, ∀ x d, s.entry j = some x → x.decision = some d →
        (d.action = .pass → t.routeAt j = some .issueWait) ∧ (d.action = .refuse → t.routeAt j = some (.done .error)) ∧
        (d.action = .trap → t.routeAt j = some .held)) ∧
      t.acceptOrder = s.acceptOrder ∧ t.windows = s.windows ∧ t.ticket = s.ticket ∧ t.now = s.now ∧
      t.contexts = (s.departed sl e dest).contexts ∧ t.arb = (s.departed sl e dest).arb ∧
      ((behind = [] ∧ (∀ j ∈ examined, t.routeAt j ≠ some .held) ∧ t.pool = left) ∨
       (∃ before j x d, examined = before ++ [j] ∧ (∀ k ∈ before, t.routeAt k ≠ some .held) ∧
          t.routeAt j = some .held ∧ s.entry j = some x ∧ x.decision = some d ∧
          t.pool = left ++ [{
            entry := j
            heldSince := s.now
            deadline := if d.deadlineCode = 0 then none else some (s.now + 2 ^ (d.deadlineCode.val + 1))
            how := if d.action = .trap then .trapWindow else .listFallback
            context := none }]))

/-! ## Timers and the frame stream -/

/-- The gap timer expires from 1,000 µs after the last frame write: a partial frame is discarded with LINK_FAULT gap and its
byte count, DISCARDING ends, and the link is IDLE. The quiesce timer expires from 10,000 µs after the check byte: QUIESCE
responds TIMEOUT, the three bytes 30h, 00h and D0h, and the gate stays as it is. Neither expires earlier, nor in another
link state (R158, R159, R167, R168, R176; the row then changes nothing, log entry 4). -/
def Obligations.LinkTimersExpire : Prop :=
  (∀ (s : State) (bytes : List Byte) (since : Nat), s.link = .receiving bytes since → since + 1000 ≤ s.now →
    exec .gapTimerExpiry s = .next { s with
      link := .idle
      causes := { s.causes with linkFault := post s.causes.linkFault { kind := .gap, bytes := bytes.length } } }) ∧
  (∀ (s : State) (since : Nat), s.link = .discarding since → since + 1000 ≤ s.now →
    exec .gapTimerExpiry s = .next { s with link := .idle }) ∧
  (∀ s : State, (∀ bytes since, s.link = .receiving bytes since → s.now < since + 1000) →
    (∀ since, s.link = .discarding since → s.now < since + 1000) → exec .gapTimerExpiry s = .next s) ∧
  (∀ (s : State) (L started : Nat), s.link = .executing L started → started + 10000 ≤ s.now →
    exec .quiesceTimerExpiry s = .next { s with link := .responding L [0x30, 0x00, 0xD0] 0 }) ∧
  (∀ s : State, (∀ L started, s.link = .executing L started → s.now < started + 10000) →
    exec .quiesceTimerExpiry s = .next s)

/-- A frame write by the link state: IDLE starts a frame; a length byte above 80 starts DISCARDING with LINK_FAULT
overlong; a length byte or a payload byte is kept and restarts the gap timer; DISCARDING passes over the byte. While PRESET#
is asserted nothing is received (R154, R157, R158). -/
def Obligations.FrameWriteByLinkState : Prop :=
  ∀ (s : State) (b : Byte),
    (s.preset = true → exec (.frameWrite b) s = .next s) ∧
    (s.preset = false →
      (s.link = .idle → exec (.frameWrite b) s = .next { s with link := .receiving [b] s.now }) ∧
      (∀ op since, s.link = .receiving [op] since →
        (80 < b.toNat → exec (.frameWrite b) s = .next { s with
          link := .discarding s.now
          causes := { s.causes with linkFault := post s.causes.linkFault { kind := .overlong, bytes := 2 } } }) ∧
        (b.toNat ≤ 80 → exec (.frameWrite b) s = .next { s with link := .receiving [op, b] s.now })) ∧
      (∀ (op len : Byte) (payload : List Byte) (since : Nat), s.link = .receiving (op :: len :: payload) since →
        len.toNat ≤ 80 → payload.length < len.toNat →
        exec (.frameWrite b) s = .next { s with link := .receiving (op :: len :: (payload ++ [b])) s.now }) ∧
      (∀ since, s.link = .discarding since → exec (.frameWrite b) s = .next { s with link := .discarding s.now }))

/-- A frame write while EXECUTING or RESPONDING is ignored but for one LINK_FAULT of L + 3 bytes, and bytes written one after
another post one occurrence each, the first giving the detail (R163). -/
def Obligations.WriteWhileBusy : Prop :=
  ∀ (s : State) (L : Nat), s.preset = false →
    ((∃ started, s.link = .executing L started) ∨ ∃ frame taken, s.link = .responding L frame taken) →
    (∀ b, exec (.frameWrite b) s = .next { s with
      causes := { s.causes with
        linkFault := post s.causes.linkFault { kind := .writeWhileBusy, bytes := L + 3 } } }) ∧
    (∀ bs : List Byte, s.causes.linkFault = none → bs ≠ [] → s.writeBytes bs = { s with
      causes := { s.causes with
        linkFault := some { occurrences := min bs.length 255,
                            detail := { kind := .writeWhileBusy, bytes := L + 3 } } } })

/-- The check byte of a frame that fails the examination is answered by the first test that fails, with no payload, and
changes nothing but the link (R160). -/
def Obligations.FailedExamination : Prop :=
  ∀ (s : State) (op len check : Byte) (payload : List Byte) (since : Nat),
    s.preset = false → s.link = .receiving (op :: len :: payload) since → len.toNat ≤ 80 →
    payload.length = len.toNat →
    let sum := bytesSum (op :: len :: payload ++ [check])
    (sum ≠ 0 → exec (.frameWrite check) s = .next (s.answerWith payload.length (replyOnly .checkFail))) ∧
    (sum = 0 → readCommand op.toNat payload = .unknownOp →
      exec (.frameWrite check) s = .next (s.answerWith payload.length (replyOnly .unknownOp))) ∧
    (sum = 0 → readCommand op.toNat payload = .badLength →
      exec (.frameWrite check) s = .next (s.answerWith payload.length (replyOnly .badLength))) ∧
    (∀ c, sum = 0 → readCommand op.toNat payload = .command c → exec (.frameWrite check) s = exec c { s with link := .idle })

/-- The 25 opcodes and the payload length each requires: any other opcode is UNKNOWN_OP, and any other length for one of
them is BAD_LENGTH (R160, R175). -/
def Obligations.OpcodesAndPayloadLengths : Prop :=
  let fits : Nat → Nat → Prop := fun op n =>
    (op ∈ [0x01, 0x02, 0x21, 0x30, 0x61, 0x6F] ∧ n = 0) ∨
    (op ∈ [0x31, 0x42, 0x43, 0x44, 0x50, 0x60] ∧ n = 1) ∨
    (op ∈ [0x11, 0x45, 0x51, 0x52] ∧ n = 2) ∨ (op ∈ [0x32, 0x35] ∧ n = 3) ∨ (op = 0x36 ∧ n = 4) ∨
    (op = 0x20 ∧ n = 5) ∨ (op = 0x40 ∧ n = 6) ∨ (op = 0x34 ∧ n = 7) ∨ (op = 0x33 ∧ n = 8) ∨ (op = 0x10 ∧ n = 17) ∨
    (op = 0x41 ∧ ∃ k, 1 ≤ k ∧ k ≤ 12 ∧ n = 2 + 4 * k)
  ∀ (op : Nat) (payload : List Byte),
    (readCommand op payload = .unknownOp ↔ ∀ n, ¬ fits op n) ∧
    ((∃ c, readCommand op payload = .command c) ↔ fits op payload.length)

/-- Every well-formed framed command, with every value of its operands, reads back from its own frame, whose payload is at most
80 bytes and whose bytes sum to 0; and an opcode and payload that read as a command are those of that command's own frame, so
that no bit of a frame is dropped (R156, R160, R175 to R182). -/
def Obligations.FramesAndCommandsAgree : Prop :=
  (∀ (c : Instr) (op : Byte) (payload : List Byte), c.wf = true → commandPayload c = some (op, payload) →
     readCommand op.toNat payload = .command c ∧ payload.length ≤ 80 ∧
     bytesSum (commandFrame c) = 0 ∧ (commandFrame c).take 2 = [op, byteOf payload.length] ∧
     (commandFrame c).length = payload.length + 3) ∧
  (∀ (op : Byte) (payload : List Byte) (c : Instr), readCommand op.toNat payload = .command c →
     commandPayload c = some (op, payload) ∧ c.wf = true)

/-- A framed command given as one command of the block has exactly the effect of the bytes of its frame written one by one,
in every link state: executed on an IDLE link, ignored or passed over on a busy one, taken into a frame already begun
(R157, R158, R160, R161, R163; log entry 1). -/
def Obligations.CommandEqualsItsFrame : Prop :=
  ∀ (c : Instr) (s : State), c.wf = true → commandPayload c ≠ none → exec c s = .next (s.writeBytes (commandFrame c))

/-- A frame read in RESPONDING drives the next byte of the response, the last taking the link to IDLE; so reading a response
from its status on gives every byte once, in order, and changes nothing else. In any other state a frame read gives 00h
(R162). A status read returns the status byte in any link state (R165). While PRESET# is asserted no read is answered (R154).
sdOut, which holds the byte given or none, is the model's own record of it, and all that a read outside RESPONDING changes
(log entry 9). A control write of 01h takes the link to IDLE from any state and changes nothing else, the gate included; any
other value is ignored (R164, R183), as is any while PRESET# is asserted (R154). -/
def Obligations.FrameReadAndAbort : Prop :=
  (∀ (s : State) (L taken : Nat) (frame : List Byte), s.preset = false → s.link = .responding L frame taken →
    taken < frame.length →
    exec .frameRead s = .next { s with
      sdOut := frame[taken]?
      link := if taken + 1 = frame.length then .idle else .responding L frame (taken + 1) }) ∧
  (∀ (s : State) (L : Nat) (frame : List Byte), s.preset = false → frame ≠ [] → s.link = .responding L frame 0 →
    (State.readOut frame.length s).1 = frame.map some ∧
    (State.readOut frame.length s).2 = { s with link := .idle, sdOut := frame.getLast? }) ∧
  (∀ s : State, s.preset = false → (∀ L frame taken, s.link ≠ .responding L frame taken) →
    exec .frameRead s = .next { s with sdOut := some 0 }) ∧
  (∀ s : State, s.preset = true → exec .frameRead s = .next { s with sdOut := none } ∧ s.statusRead = none) ∧
  (∀ s : State, s.preset = false → s.statusRead = some s.linkStatusByte) ∧
  (∀ s : State, s.preset = false → exec (.abort 0x01) s = .next { s with link := .idle }) ∧
  (∀ (s : State) (control : Byte), control ≠ 0x01 ∨ s.preset = true → exec (.abort control) s = .next s)

/-- The link status byte: link state in bits 2..0 and never 5, 6 or 7, then NOTIFY, ATTN, gate closed, stall and a 0; 00h
after power-on reset, and 63h during QUIESCE with a stall on the closed gate and both lines negated. The control byte has the
one value 01h (R183). -/
def Obligations.StatusByteLayout : Prop :=
  (∀ s : State,
    (s.linkStatusByte.extractLsb' 0 3).toNat = (match s.link with
      | .idle => 0
      | .receiving _ _ => 1
      | .discarding _ => 2
      | .executing _ _ => 3
      | .responding _ _ _ => 4) ∧
    s.linkStatusByte.getLsbD 3 = s.notify ∧ s.linkStatusByte.getLsbD 4 = s.attn ∧
    s.linkStatusByte.getLsbD 5 = decide (s.gate = .closed) ∧
    s.linkStatusByte.getLsbD 6 = decide (s.stallReason ≠ .none) ∧ s.linkStatusByte.getLsbD 7 = false) ∧
  (∀ s t : State, exec .powerOnReset s = .next t → ∃ u, exec .presetNegation t = .next u ∧
    u.linkStatusByte = 0x00) ∧
  (∀ (s : State) (L started : Nat), s.link = .executing L started → s.stallReason = .gate → s.notify = false →
    s.attn = false → s.linkStatusByte = 0x63) ∧
  (∀ s : State, s.preset = false → exec (.abort 0x01) s = .next { s with link := .idle }) ∧
  (∀ (s : State) (control : Byte), control ≠ 0x01 → exec (.abort control) s = .next s)

/-! ## Commands -/

/-- IDENTIFY is answered with the frame R182 spells, in any state in which the link takes it, and changes nothing else
(R172, R182). -/
def Obligations.IdentifyFrame : Prop :=
  ∀ s : State, s.LinkReady → exec .identify s = .next { s with
    link := .responding 0
      [0x00, 0x0C, 0x61, 0x40, 0x01, 0x18, 0x10, 0x08, 0x20, 0x04, 0x06, 0x02, 0x00, 0x08, 0xEE] 0 }

/-- SURVEY returns the seven route state counts, which sum to 32, the gate, the stall reason and the link state RESPONDING,
and changes nothing else (R173, R182). -/
def Obligations.SurveyCounts : Prop :=
  ∀ s : State, s.LinkReady →
    let free := s.countAt fun r => decide (r = none)
    let issueWait := s.countAt fun r => decide (r = some .issueWait)
    let inMemory := s.countAt fun r => decide (r = some .inMemory)
    let held := s.countAt fun r => decide (r = some .held)
    let blocked := s.countAt fun r => decide (r = some .blocked)
    let done := s.countAt fun r => r.any Route.isDone
    let orphan := s.countAt fun r => decide (r = some .orphan)
    exec .survey s = .next (s.answerWith 0 (replyOk
      [byteOf free, byteOf issueWait, byteOf inMemory, byteOf held, byteOf blocked, byteOf done, byteOf orphan,
       gateCode s.gate, stallCode s.stallReason, 0x04])) ∧
    free + issueWait + inMemory + held + blocked + done + orphan = 32

/-- WRITE WINDOW: a payload that passes R31 replaces the window whole, with its base the largest multiple of 2^e not above the
one given and its hit counter 0, answered ADJUSTED when the base changed and OK otherwise; any other is answered BAD_PARAM and
changes no window (R31, R32, R34). The head request is then tested again (R33). -/
def Obligations.WriteWindowReplacesTheWindow : Prop :=
  ∀ (w : WindowImage) (s : State), s.LinkReady →
    let sound := w.index.toNat ≤ 23 ∧ 2 ≤ w.exponent.toNat ∧ w.exponent.toNat ≤ 31 ∧
      (w.control.extractLsb' 1 2).toNat ≤ 2 ∧ w.control.toNat < 32 ∧ w.cls.toNat ≤ 5 ∧ w.deadlineCode.toNat ≤ 15 ∧
      w.deadlineAction.toNat ≤ 2 ∧ (w.readList.toNat ≤ 3 ∨ w.readList = 0xFF) ∧
      ((4 ≤ w.writeList.toNat ∧ w.writeList.toNat ≤ 7) ∨ w.writeList = 0xFF) ∧
      ¬ ((w.control.extractLsb' 3 2).toNat = 3 ∧ 12 < w.exponent.toNat)
    (¬ sound → exec (.writeWindow w) s = .next (s.answerWith 17 (replyOnly .badParam))) ∧
    (sound → ∃ (i : WindowIndex) (win : Window), i.val = w.index.toNat ∧
      win.valid = w.control.getLsbD 0 ∧ win.exponent.val = w.exponent.toNat ∧
      win.base.toNat = w.base.toNat / 2 ^ w.exponent.toNat * 2 ^ w.exponent.toNat ∧
      filterCode win.filter = w.control.extractLsb' 1 2 ∧ actionCode win.action = w.control.extractLsb' 3 2 ∧
      win.masters = w.masters ∧ win.cls.val = w.cls.toNat ∧ win.deadlineCode.val = w.deadlineCode.toNat ∧
      deadlineActionCode win.deadlineAction = w.deadlineAction ∧ win.fill = w.fill ∧
      codeOrNone win.readList = w.readList ∧ writeListCode win.writeList = w.writeList ∧ win.hits = 0 ∧
      exec (.writeWindow w) s = .next ((({ s with windows := s.windows.set i win }).openEpisode).answerWith 17
        (replyOnly (if win.base = w.base then .ok else .adjusted))))

/-- READ WINDOW returns the 17 bytes of the window entry and the hit count, and clears the count exactly with flag 01h; an
index above 23 or another flag value is BAD_PARAM. A window written by WRITE WINDOW reads back as the bytes it was given, but
for the adjusted base (R35, R36, R177). -/
def Obligations.ReadWindowReturnsTheEntry : Prop :=
  (∀ (index flag : Byte) (s : State), s.LinkReady →
    (24 ≤ index.toNat ∨ 2 ≤ flag.toNat →
      exec (.readWindow index flag) s = .next (s.answerWith 2 (replyOnly .badParam))) ∧
    (∀ i : WindowIndex, i.val = index.toNat →
      (flag = 0x00 → exec (.readWindow index flag) s = .next (s.answerWith 2
        (replyOk (windowEntryBytes i s.windows[i] ++ bytesOfHalf s.windows[i].hits)))) ∧
      (flag = 0x01 → exec (.readWindow index flag) s = .next
        (({ s with windows := s.windows.set i { s.windows[i] with hits := 0 } }).answerWith 2
          (replyOk (windowEntryBytes i s.windows[i] ++ bytesOfHalf s.windows[i].hits)))))) ∧
  (∀ (w : WindowImage) (i : WindowIndex) (win : Window), windowOf w = some win → i.val = w.index.toNat →
    windowEntryBytes i win = [w.index] ++ bytesOfWord win.base ++
      [w.exponent, w.control, w.masters, w.cls, w.deadlineCode, w.deadlineAction] ++ bytesOfWord w.fill ++
      [w.readList, w.writeList])

/-- SET ARBITRATION: a bad code, floor or set is BAD_PARAM; a change of nesting mode with a context OPEN is BUSY; neither
changes a setting. Otherwise all five settings are written as one event, answered OK (R94, R95, R96, R178). -/
def Obligations.SetArbitrationOutcomes : Prop :=
  ∀ (order nesting floor suppressed notifyOn : Byte) (s : State), s.LinkReady →
    let sound := order.toNat ≤ 1 ∧ nesting.toNat ≤ 1 ∧ floor.toNat ≤ 5 ∧ suppressed.toNat < 64 ∧ notifyOn.toNat ≤ 1
    let changesNesting := nesting ≠ nestingCode s.arb.nesting
    (¬ sound → exec (.setArbitration order nesting floor suppressed notifyOn) s =
      .next (s.answerWith 5 (replyOnly .badParam))) ∧
    (sound → changesNesting → (∃ c, s.context c ≠ none) →
      exec (.setArbitration order nesting floor suppressed notifyOn) s = .next (s.answerWith 5 (replyOnly .busy))) ∧
    (sound → ¬ changesNesting ∨ (∀ c, s.context c = none) → ∃ a : Arbitration,
      orderCode a.order = order ∧ nestingCode a.nesting = nesting ∧ a.floor.val = floor.toNat ∧
      a.suppressed.toNat = suppressed.toNat ∧ flagCode a.notifyOn = notifyOn ∧
      exec (.setArbitration order nesting floor suppressed notifyOn) s =
        .next (({ s with arb := a }).answerWith 5 (replyOnly .ok)))

/-- The commands that only read: READ ARBITRATION, PEEK, READ LIST and READ ATTENTION answer what stands and change nothing
but the link, in each of their outcomes (R91, R97, R128, R149, R178 to R181). The ten records READ ATTENTION returns are
those of the causes in number order, a clear one with no occurrence and no detail, a set one with its detail field by field
(R140, R181). -/
def Obligations.ReadingCommandsChangeNothing : Prop :=
  ∀ s : State, s.LinkReady →
    exec .readArbitration s = .next (s.answerWith 0 (replyOk
      ([orderCode s.arb.order, nestingCode s.arb.nesting, byteOf s.arb.floor.val, (0#2) ++ s.arb.suppressed,
        flagCode s.arb.notifyOn] ++
       (List.finRange 6).map (fun c => byteOf (s.pool.countP fun sl =>
         decide (sl.context = none ∧ s.classOf sl.entry = some c))) ++
       bytesOfHalf s.ticket ++ [byteOf s.openContexts.length] ++
       s.openContexts.flatMap fun o => [byteOf o.1.val] ++ bytesOfHalf o.2.ticket ++ [byteOf o.2.cls.val]))) ∧
    (∀ ctx : Byte,
      (4 ≤ ctx.toNat → exec (.peek ctx) s = .next (s.answerWith 1 (replyOnly .badParam))) ∧
      (∀ c : ContextIndex, c.val = ctx.toNat → s.context c = none →
        exec (.peek ctx) s = .next (s.answerWith 1 (replyOnly .stale))) ∧
      (∀ (c : ContextIndex) (o : OpenContext) (sl : Slot) (e : Entry), c.val = ctx.toNat → s.context c = some o →
        s.slotOf o.entry = some sl → s.entry o.entry = some e →
        exec (.peek ctx) s = .next (s.answerWith 1 (replyOk (heldRecord s.now c o sl e))))) ∧
    (∀ list : Byte,
      (8 ≤ list.toNat → exec (.readList list) s = .next (s.answerWith 1 (replyOnly .badParam))) ∧
      (∀ l : ListOrdinal, l.val = list.toNat → exec (.readList list) s = .next (s.answerWith 1 (replyOk
        ([list] ++ bytesOfHalf (BitVec.ofNat 16 s.answerLists[l].first) ++
         bytesOfHalf (BitVec.ofNat 16 s.answerLists[l].length) ++
         [listControl s.answerLists[l].exhaustion s.answerLists[l].reload, answerStateCode s.answerLists[l].state] ++
         bytesOfHalf (BitVec.ofNat 16 s.answerLists[l].position) ++
         bytesOfHalf (BitVec.ofNat 16 s.answerLists[l].remaining))))) ∧
      (∀ l : ListOrdinal, 4 + l.val = list.toNat → exec (.readList list) s = .next (s.answerWith 1 (replyOk
        ([list] ++ bytesOfHalf (BitVec.ofNat 16 s.captureLists[l].first) ++
         bytesOfHalf (BitVec.ofNat 16 s.captureLists[l].length) ++
         [listControl s.captureLists[l].exhaustion false, captureStateCode s.captureLists[l].state] ++
         bytesOfHalf (BitVec.ofNat 16 s.captureLists[l].head) ++
         bytesOfHalf (BitVec.ofNat 16 s.captureLists[l].count)))))) ∧
    (∀ cause : Byte,
      (10 ≤ cause.toNat → exec (.readAttention cause) s = .next (s.answerWith 1 (replyOnly .badParam))) ∧
      (∀ v, s.causes.views[cause.toNat]? = some v → exec (.readAttention cause) s = .next (s.answerWith 1 (replyOk
        ([cause, flagCode v.isSet, byteOf v.occurrences] ++ bytesOfHalf ((0#6) ++ s.causes.setBits) ++
          bytesOfHalf ((0#6) ++ s.enabled) ++ v.detail))) ∧
      (∀ v, s.causes.views[cause.toNat]? = some v → s.causes.setBits.getLsbD cause.toNat = v.isSet)) ∧
    s.causes.RecordLayout)

/-- The held record of TAKE and PEEK, field by field: 20 bytes for a READ, 24 for a WRITE (R47, R179). -/
def Obligations.HeldRecordLayout : Prop :=
  ∀ (now : Nat) (c : ContextIndex) (o : OpenContext) (sl : Slot) (e : Entry),
    let b := heldRecord now c o sl e
    b.take 4 = [byteOf c.val] ++ bytesOfHalf o.ticket ++ [byteOf o.cls.val] ∧
    (b.drop 4).take 6 = [kindCode (kindOf e.req.access), howCode sl.how, codeOrNone (e.decision.bind Decision.window),
      byteOf e.req.master.val, byteOf e.req.tag.val, (0#4) ++ e.req.lanes] ∧
    (b.drop 10).take 4 = bytesOfWord (e.req.addr ++ (0#2)) ∧
    (b.drop 14).take 2 = bytesOfHalf (if now - sl.heldSince ≤ 65535 then BitVec.ofNat 16 (now - sl.heldSince) else 0xFFFF) ∧
    (b.drop 16).take 4 = bytesOfWord (match sl.deadline with
      | none => 0xFFFFFFFF
      | some t => BitVec.ofNat 32 (t - now)) ∧
    (e.req.access = .read → b.length = 20) ∧
    (∀ data, e.req.access = .write data → b.length = 24 ∧ b.drop 20 = bytesOfWord data)

/-- The urgency order: under every floor the six ranks are 1 to 6 without duplicates, the class after the floor is the most
urgent, the order continues upward wrapping from 5 to 0, and the floor is the least urgent (R79). -/
def Obligations.UrgencyOrder : Prop :=
  ∀ floor : ServiceClass,
    (∀ c : ServiceClass, 1 ≤ rank floor c ∧ rank floor c ≤ 6) ∧
    (∀ c d : ServiceClass, rank floor c = rank floor d → c = d) ∧
    rank floor (floor + 1) = 1 ∧ rank floor floor = 6 ∧
    (∀ c : ServiceClass, c ≠ floor → rank floor (c + 1) = rank floor c + 1)

/-- TAKE with a context FREE and an eligible WAITING record: it selects the most urgent class and in it the record oldest in
the hold-arrival order, gives the next ticket, opens the lowest-numbered FREE context and makes the record TAKEN; nothing
else changes (R46, R83, R86, R87). -/
def Obligations.TakeOpensAContext : Prop :=
  ∀ (s : State) (c : ContextIndex), s.LinkReady → s.context c = none → (∀ c' < c, s.context c' ≠ none) →
    (∃ sl ∈ s.pool, ∃ k, sl.context = none ∧ s.classOf sl.entry = some k ∧ s.classEligible k = true) →
    ∃ before sl after k e, s.pool = before ++ sl :: after ∧ sl.context = none ∧ s.entry sl.entry = some e ∧
      s.classOf sl.entry = some k ∧ s.classEligible k = true ∧
      (∀ x ∈ s.pool, ∀ m, x.context = none → s.classOf x.entry = some m → s.classEligible m = true →
        rank s.arb.floor k ≤ rank s.arb.floor m) ∧
      (∀ x ∈ before, x.context = none → s.classOf x.entry ≠ some k) ∧
      exec .take s = .next (({ s with
        pool := s.pool.map fun (x : Slot) => if x.entry = sl.entry then { x with context := some c } else x
        contexts := s.contexts.set c (some { ticket := s.ticket + 1, entry := sl.entry, cls := k })
        ticket := s.ticket + 1 }).answerWith 0
          (replyOk (heldRecord s.now c { ticket := s.ticket + 1, entry := sl.entry, cls := k } sl e)))

/-- TAKE with four contexts OPEN is NO_CONTEXT; with one FREE and nothing eligible it is NONE, in each of the cases R88
lists; neither changes any state but the link's response (R88). -/
def Obligations.TakeWithNothingToTake : Prop :=
  ∀ s : State, s.LinkReady →
    let waiting : ServiceClass → Prop := fun k => ∃ sl ∈ s.pool, sl.context = none ∧ s.classOf sl.entry = some k
    ((∀ c, s.context c ≠ none) → exec .take s = .next (s.answerWith 0 (replyOnly .noContext))) ∧
    ((∃ c, s.context c = none) →
      ((∀ k, waiting k → s.classEligible k = false) → exec .take s = .next (s.answerWith 0 (replyOnly .none))) ∧
      ((∀ sl ∈ s.pool, sl.context ≠ none) → exec .take s = .next (s.answerWith 0 (replyOnly .none))) ∧
      ((∀ k, waiting k → s.arb.suppressed.getLsbD k.val = true) →
        exec .take s = .next (s.answerWith 0 (replyOnly .none))) ∧
      (s.arb.nesting = .nested →
        (∀ k, waiting k → s.arb.suppressed.getLsbD k.val = false →
          ∃ c o, s.context c = some o ∧ rank s.arb.floor o.cls ≤ rank s.arb.floor k) →
        exec .take s = .next (s.answerWith 0 (replyOnly .none))))

/-- NOTIFY is asserted exactly when notify is enabled, fewer than four contexts are OPEN and an eligible WAITING entry exists,
and it then means that a TAKE sent now succeeds; TAKE itself does not read the notify enable (R83, R92). -/
def Obligations.NotifyMeansTakeSucceeds : Prop :=
  ∀ s : State,
    (s.notify = true ↔ s.arb.notifyOn = true ∧ (∃ c, s.context c = none) ∧
      ∃ sl ∈ s.pool, ∃ k, sl.context = none ∧ s.classOf sl.entry = some k ∧
        s.arb.suppressed.getLsbD k.val = false ∧
        (s.arb.nesting = .flat ∨ ∀ c o, s.context c = some o → rank s.arb.floor k < rank s.arb.floor o.cls)) ∧
    (s.LinkReady → s.arb.notifyOn = true →
      (s.notify = true ↔ ∃ t payload, exec .take s = .next t ∧ t.link = .responding 0 (responseFrame (replyOk payload)) 0 ∧
        t.ticket = s.ticket + 1)) ∧
    (∀ on : Bool, s.LinkReady → ∃ t, exec .take { s with arb := { s.arb with notifyOn := on } } =
        .next { t with arb := { t.arb with notifyOn := on } } ∧ exec .take s = .next t) ∧
    s.linkStatusByte.getLsbD 3 = s.notify

/-- The five dispositions turned away: BAD_PARAM by the command alone, then STALE for a context that is FREE or open with
another ticket, then WRONG_KIND for RELEASE WITH DATA of a READ; none changes anything but the link (R102, R103, R106). -/
def Obligations.DispositionsTurnedAway : Prop :=
  ∀ (s : State) (ctx : Byte) (ticket : Half), s.LinkReady →
    (4 ≤ ctx.toNat →
      exec (.release ctx ticket) s = .next (s.answerWith 3 (replyOnly .badParam)) ∧
      exec (.refuse ctx ticket) s = .next (s.answerWith 3 (replyOnly .badParam)) ∧
      (∀ data, exec (.answer ctx ticket data) s = .next (s.answerWith 7 (replyOnly .badParam)))) ∧
    (∀ lanes data, 4 ≤ ctx.toNat ∨ lanes = 0 ∨ 16 ≤ lanes.toNat →
      exec (.releaseWithData ctx ticket lanes data) s = .next (s.answerWith 8 (replyOnly .badParam))) ∧
    (∀ code, 4 ≤ ctx.toNat ∨ 16 ≤ code.toNat →
      exec (.extend ctx ticket code) s = .next (s.answerWith 4 (replyOnly .badParam))) ∧
    (∀ c : ContextIndex, c.val = ctx.toNat → (∀ o, s.context c = some o → o.ticket ≠ ticket) →
      exec (.release ctx ticket) s = .next (s.answerWith 3 (replyOnly .stale)) ∧
      exec (.refuse ctx ticket) s = .next (s.answerWith 3 (replyOnly .stale)) ∧
      (∀ data, exec (.answer ctx ticket data) s = .next (s.answerWith 7 (replyOnly .stale))) ∧
      (∀ lanes data, lanes ≠ 0 → lanes.toNat < 16 →
        exec (.releaseWithData ctx ticket lanes data) s = .next (s.answerWith 8 (replyOnly .stale))) ∧
      (∀ code, code.toNat < 16 → exec (.extend ctx ticket code) s = .next (s.answerWith 4 (replyOnly .stale)))) ∧
    (∀ (c : ContextIndex) (o : OpenContext) (sl : Slot) (e : Entry) (lanes : Byte) (data : Word),
      c.val = ctx.toNat → s.context c = some o → o.ticket = ticket → s.slotOf o.entry = some sl →
      s.entry o.entry = some e → e.req.access = .read → lanes ≠ 0 → lanes.toNat < 16 →
      exec (.releaseWithData ctx ticket lanes data) s = .next (s.answerWith 8 (replyOnly .wrongKind)))

/-- The dispositions of a TAKEN entry through its context and ticket: RELEASE issues it as it stands, RELEASE WITH DATA
replaces a WRITE's data and lanes whole first, ANSWER makes it DONE with OK and, for a READ, the word carried, REFUSE makes it
DONE with ERROR; each is a departure, answered OK, after which the head request is tested (R104 to R110). EXTEND restarts the
deadline from now with the code carried, none for code 0, and changes nothing else (R50, R111). -/
def Obligations.DispositionsCarriedOut : Prop :=
  (∀ (s : State) (ctx : Byte) (ticket : Half) (c : ContextIndex) (o : OpenContext) (sl : Slot) (e : Entry),
     s.LinkReady → c.val = ctx.toNat → s.context c = some o → o.ticket = ticket → s.slotOf o.entry = some sl →
     s.entry o.entry = some e →
     exec (.release ctx ticket) s = .next ((s.depart sl e .issue).openEpisode.answerWith 3 (replyOnly .ok)) ∧
     exec (.refuse ctx ticket) s = .next ((s.depart sl e (.done .error)).openEpisode.answerWith 3 (replyOnly .ok)) ∧
     (∀ data, e.req.access = .read → exec (.answer ctx ticket data) s =
       .next ((s.depart sl e (.done (.okWord data))).openEpisode.answerWith 7 (replyOnly .ok))) ∧
     (∀ data, e.req.access ≠ .read → exec (.answer ctx ticket data) s =
       .next ((s.depart sl e (.done .ok)).openEpisode.answerWith 7 (replyOnly .ok))) ∧
     (∀ (lanes : Byte) (data old : Word), e.req.access = .write old → lanes ≠ 0 → lanes.toNat < 16 →
       let e' : Entry := { e with req := { e.req with access := .write data, lanes := lanes.setWidth 4 } }
       exec (.releaseWithData ctx ticket lanes data) s =
         .next ((({ s with entries := s.entries.set o.entry (some e') }).depart sl e' .issue).openEpisode.answerWith 8
           (replyOnly .ok)))) ∧
  (∀ (s : State) (ctx code : Byte) (ticket : Half) (c : ContextIndex) (o : OpenContext) (sl : Slot) (e : Entry),
     s.LinkReady → c.val = ctx.toNat → s.context c = some o → o.ticket = ticket → s.slotOf o.entry = some sl →
     s.entry o.entry = some e → code.toNat < 16 →
     exec (.extend ctx ticket code) s = .next (({ s with
       pool := s.pool.map fun (x : Slot) => if x.entry = o.entry then
           { x with deadline := if code = 0 then none else some (s.now + 2 ^ (code.toNat + 1)) }
         else x }).answerWith 4 (replyOnly .ok)))

/-- SET LIST: BAD_PARAM for a bad id, area or control byte, BUSY for a list that is not IDLE; otherwise the descriptor is
written, an answer list with position at first and nothing remaining, a capture list with its records discarded and reload
off (R125, R180). The head request is then tested again (R5). -/
def Obligations.SetListWritesTheDescriptor : Prop :=
  ∀ (s : State) (list control : Byte) (first length : Half), s.LinkReady →
    let sound := list.toNat < 8 ∧ 1 ≤ length.toNat ∧ first.toNat + length.toNat ≤ 512 ∧ control.toNat < 8 ∧
      (control.extractLsb' 0 2).toNat ≤ 2
    (¬ sound → exec (.setList list first length control) s = .next (s.answerWith 6 (replyOnly .badParam))) ∧
    (∀ l : ListOrdinal, sound → l.val = list.toNat →
      (s.answerLists[l].state ≠ .idle →
        exec (.setList list first length control) s = .next (s.answerWith 6 (replyOnly .busy))) ∧
      (s.answerLists[l].state = .idle → ∃ x, exhaustionCode x = control.extractLsb' 0 2 ∧
        exec (.setList list first length control) s = .next (({ s with
          answerLists := s.answerLists.set l
            { first := first.toNat, length := length.toNat, exhaustion := x, reload := control.getLsbD 2, state := .idle,
              position := first.toNat, remaining := 0 } }).openEpisode.answerWith 6 (replyOnly .ok)))) ∧
    (∀ l : ListOrdinal, sound → 4 + l.val = list.toNat →
      (s.captureLists[l].state ≠ .idle →
        exec (.setList list first length control) s = .next (s.answerWith 6 (replyOnly .busy))) ∧
      (s.captureLists[l].state = .idle → ∃ x, exhaustionCode x = control.extractLsb' 0 2 ∧
        exec (.setList list first length control) s = .next (({ s with
          captureLists := s.captureLists.set l
            { first := first.toNat, length := length.toNat, exhaustion := x, state := .idle, head := 0,
              count := 0 } }).openEpisode.answerWith 6 (replyOnly .ok))))

/-- LOAD CELLS of 1 to 12 words: BAD_PARAM for a run past cell 511, BUSY for a run that meets an engaged area; otherwise the
run's cells hold the words with the empty lane set, master 0 and offset 0, and every other cell is as before (R122). A frame of
no word or of 13 to 19 words is answered BAD_LENGTH, one of 20 to 63 words is overlong, and one of 64 words or more fits no
frame (R156, R158, R160; log entry 11). -/
def Obligations.LoadCellsWritesTheRun : Prop :=
  (∀ (s : State) (start : Half) (words : List Word), s.LinkReady → 1 ≤ words.length → words.length ≤ 12 →
     (512 < start.toNat + words.length →
       exec (.loadCells start words) s = .next (s.answerWith (2 + 4 * words.length) (replyOnly .badParam))) ∧
     (start.toNat + words.length ≤ 512 → ¬ s.ClearOfEngaged start.toNat words.length →
       exec (.loadCells start words) s = .next (s.answerWith (2 + 4 * words.length) (replyOnly .busy))) ∧
     (start.toNat + words.length ≤ 512 → s.ClearOfEngaged start.toNat words.length → cellsWf s.cells = true →
       ∃ cells, exec (.loadCells start words) s =
           .next (({ s with cells := cells }).answerWith (2 + 4 * words.length) (replyOnly .ok)) ∧
         cellsWf cells = true ∧
         (∀ (k : Nat) (w : Word), words[k]? = some w →
           readCell cells (start.toNat + k) = { data := w, lanes := 0, master := 0, offset := 0 }) ∧
         (∀ n, n < start.toNat ∨ start.toNat + words.length ≤ n → readCell cells n = readCell s.cells n))) ∧
  (∀ (start : Half) (words : List Word) (s : State), s.LinkReady →
     (words.length = 0 ∨ (13 ≤ words.length ∧ words.length ≤ 19) →
       exec (.loadCells start words) s = .next (s.answerWith (2 + 4 * words.length) (replyOnly .badLength))) ∧
     (20 ≤ words.length → words.length ≤ 63 → exec (.loadCells start words) s = .next { s with
       link := .discarding s.now
       causes := { s.causes with linkFault := post s.causes.linkFault { kind := .overlong, bytes := 2 } } }) ∧
     (64 ≤ words.length → exec (.loadCells start words) s = .fault .noSuchFrame))

/-- ARM LIST: BAD_PARAM, BUSY unless IDLE, OVERLAP where the area meets an engaged one, and otherwise the list is engaged: an
answer list ARMED from its first word, a capture list ARMED behind its records, or FULL with CAPTURE_FULL posted (R126).
DISARM LIST makes the list IDLE whatever its state and keeps the rest of its descriptor; an id above 7 is BAD_PARAM (R127).
The head request is then tested again (R5). -/
def Obligations.ArmAndDisarmList : Prop :=
  (∀ (s : State) (list : Byte), s.LinkReady →
     (8 ≤ list.toNat → exec (.armList list) s = .next (s.answerWith 1 (replyOnly .badParam))) ∧
     (∀ l : ListOrdinal, l.val = list.toNat →
       let a : AnswerList := s.answerLists[l]
       (a.state ≠ .idle → exec (.armList list) s = .next (s.answerWith 1 (replyOnly .busy))) ∧
       (a.state = .idle → ¬ s.ClearOfEngaged a.first a.length →
         exec (.armList list) s = .next (s.answerWith 1 (replyOnly .overlap))) ∧
       (a.state = .idle → s.ClearOfEngaged a.first a.length → exec (.armList list) s = .next (({ s with
         answerLists := s.answerLists.set l
           { a with state := .armed, position := a.first, remaining := a.length } }).openEpisode.answerWith 1
             (replyOnly .ok)))) ∧
     (∀ l : ListOrdinal, 4 + l.val = list.toNat →
       let c : CaptureList := s.captureLists[l]
       (c.state ≠ .idle → exec (.armList list) s = .next (s.answerWith 1 (replyOnly .busy))) ∧
       (c.state = .idle → ¬ s.ClearOfEngaged c.first c.length →
         exec (.armList list) s = .next (s.answerWith 1 (replyOnly .overlap))) ∧
       (c.state = .idle → s.ClearOfEngaged c.first c.length → c.count ≠ c.length →
         exec (.armList list) s = .next (({ s with
           captureLists := s.captureLists.set l { c with state := .armed } }).openEpisode.answerWith 1 (replyOnly .ok))) ∧
       (c.state = .idle → s.ClearOfEngaged c.first c.length → c.count = c.length →
         exec (.armList list) s = .next (({ s with
           captureLists := s.captureLists.set l { c with state := .full }
           causes := { s.causes with captureFull := post s.causes.captureFull l } }).openEpisode.answerWith 1
             (replyOnly .ok))))) ∧
  (∀ (s : State) (list : Byte), s.LinkReady →
     (8 ≤ list.toNat → exec (.disarmList list) s = .next (s.answerWith 1 (replyOnly .badParam))) ∧
     (∀ l : ListOrdinal, l.val = list.toNat → exec (.disarmList list) s = .next (({ s with
       answerLists := s.answerLists.set l { s.answerLists[l] with state := .idle } }).openEpisode.answerWith 1
         (replyOnly .ok))) ∧
     (∀ l : ListOrdinal, 4 + l.val = list.toNat → exec (.disarmList list) s = .next (({ s with
       captureLists := s.captureLists.set l { s.captureLists[l] with state := .idle } }).openEpisode.answerWith 1
         (replyOnly .ok))))

/-- DRAIN CAPTURE returns the oldest min(n, count) records, oldest first, and removes them: head advances modulo the length,
count falls, and a FULL list that lost a record is ARMED; a list with no record changes nothing; an id outside 4..7 or an n
outside 1..8 is BAD_PARAM (R123, R132, R180). -/
def Obligations.DrainCaptureRemovesRecords : Prop :=
  ∀ (s : State) (list n : Byte), s.LinkReady →
    (list.toNat < 4 ∨ 8 ≤ list.toNat ∨ n = 0 ∨ 9 ≤ n.toNat →
      exec (.drainCapture list n) s = .next (s.answerWith 2 (replyOnly .badParam))) ∧
    (∀ l : ListOrdinal, 4 + l.val = list.toNat → 1 ≤ n.toNat → n.toNat ≤ 8 →
      let c : CaptureList := s.captureLists[l]
      let m := min n.toNat c.count
      let record : Nat → Cell := fun k => readCell s.cells (c.first + (c.head + k) % c.length)
      let reply := replyOk (byteOf m :: (List.range m).flatMap fun k =>
        bytesOfWord (record k).data ++ [(0#4) ++ (record k).lanes, byteOf (record k).master.val] ++
          bytesOfHalf ((record k).offset.setWidth 16))
      (c.count = 0 → exec (.drainCapture list n) s = .next (s.answerWith 2 (replyOk [0x00]))) ∧
      (1 ≤ c.count → exec (.drainCapture list n) s = .next (({ s with
        captureLists := s.captureLists.set l { c with
          head := (c.head + m) % c.length
          count := c.count - m
          state := if c.state = CaptureState.full then .armed else c.state } }).openEpisode.answerWith 2 reply)))

/-- One posting: a clear record is set with 1 occurrence and the detail handed over; a set record keeps its detail and counts
one more, up to 255 (R141). ATTN is asserted exactly when some cause is both set and enabled (R148). -/
def Obligations.PostingAndAttn : Prop :=
  (∀ (α : Type) (d : α), post none d = some { occurrences := 1, detail := d }) ∧
  (∀ (α : Type) (rec : CauseRecord α) (d : α), rec.occurrences < 255 →
    post (some rec) d = some { occurrences := rec.occurrences + 1, detail := rec.detail }) ∧
  (∀ (α : Type) (rec : CauseRecord α) (d : α), 255 ≤ rec.occurrences → post (some rec) d = some rec) ∧
  (∀ s : State, s.attn = true ↔ ∃ n v, s.causes.views[n]? = some v ∧ v.isSet = true ∧ s.enabled.getLsbD n = true)

/-- CLEAR ATTENTION makes each named cause clear, keeps the others and returns the occurrences of the named ones; a set that
names a cause above 9 is BAD_PARAM (R150, R181). -/
def Obligations.ClearAttentionClears : Prop :=
  ∀ (s : State) (causes : Half), s.LinkReady →
    (1024 ≤ causes.toNat → exec (.clearAttention causes) s = .next (s.answerWith 2 (replyOnly .badParam))) ∧
    (causes.toNat < 1024 → ∃ k : Causes,
      k.deadline = (if causes.getLsbD 0 then none else s.causes.deadline) ∧
      k.holdFull = (if causes.getLsbD 1 then none else s.causes.holdFull) ∧
      k.blockFull = (if causes.getLsbD 2 then none else s.causes.blockFull) ∧
      k.answerOut = (if causes.getLsbD 3 then none else s.causes.answerOut) ∧
      k.captureFull = (if causes.getLsbD 4 then none else s.causes.captureFull) ∧
      k.refusal = (if causes.getLsbD 5 then none else s.causes.refusal) ∧
      k.memoryError = (if causes.getLsbD 6 then none else s.causes.memoryError) ∧
      k.tagClash = (if causes.getLsbD 7 then none else s.causes.tagClash) ∧
      k.linkFault = (if causes.getLsbD 8 then none else s.causes.linkFault) ∧
      k.hostReset = (if causes.getLsbD 9 then none else s.causes.hostReset) ∧
      ∃ counts : List Byte, counts.length = 10 ∧
        (∀ n v, s.causes.views[n]? = some v →
          counts[n]? = some (if causes.getLsbD n then byteOf v.occurrences else 0)) ∧
        exec (.clearAttention causes) s = .next (({ s with causes := k }).answerWith 2 (replyOk counts)))

/-- SET ATTENTION ENABLE replaces the enable set and returns it, changing no record; a set that names a cause above 9 is
BAD_PARAM. ATTN is then found on the new set, with whatever a posting that falls together with it has set (R148, R151,
R181). -/
def Obligations.SetAttentionEnableReplaces : Prop :=
  ∀ (s : State) (causes : Half), s.LinkReady →
    (1024 ≤ causes.toNat → exec (.setAttentionEnable causes) s = .next (s.answerWith 2 (replyOnly .badParam))) ∧
    (causes.toNat < 1024 → ∃ t, exec (.setAttentionEnable causes) s = .next t ∧
      t = ({ s with enabled := causes.setWidth 10 }).answerWith 2 (replyOk (bytesOfHalf causes)) ∧
      (t.attn = true ↔ ∃ n v, s.causes.views[n]? = some v ∧ v.isSet = true ∧ causes.getLsbD n = true) ∧
      ∀ k : Causes, ({ t with causes := k }).attn = true ↔
        ∃ n v, k.views[n]? = some v ∧ v.isSet = true ∧ causes.getLsbD n = true)

/-- GATE takes the value carried and has the head request tested again; another code is BAD_PARAM (R166). QUIESCE closes the
gate; with no forwarded entry it completes at once with the counts of HELD, BLOCKED and DONE entries, and with one the link is
EXECUTING with L = 0 and the quiesce timer starts (R167, R168). -/
def Obligations.GateAndQuiesce : Prop :=
  (∀ (s : State) (code : Byte), s.LinkReady →
     (code = 0x00 → exec (.gate code) s =
       .next (({ s with gate := .opened }).openEpisode.answerWith 1 (replyOnly .ok))) ∧
     (code = 0x01 → exec (.gate code) s =
       .next (({ s with gate := .closed }).openEpisode.answerWith 1 (replyOnly .ok))) ∧
     (2 ≤ code.toNat → exec (.gate code) s = .next (s.answerWith 1 (replyOnly .badParam)))) ∧
  (∀ s : State, s.LinkReady →
     ((∀ i, s.routeAt i ≠ some .issueWait ∧ s.routeAt i ≠ some .inMemory ∧ s.routeAt i ≠ some .orphan) →
       exec .quiesce s = .next (({ s with gate := .closed }).openEpisode.answerWith 0 (replyOk
         [byteOf (s.countAt fun r => decide (r = some Route.held)), byteOf (s.countAt fun r => decide (r = some Route.blocked)),
          byteOf (s.countAt fun r => r.any Route.isDone)]))) ∧
     ((∃ i, s.routeAt i = some .issueWait ∨ s.routeAt i = some .inMemory ∨ s.routeAt i = some .orphan) →
       exec .quiesce s = .next ({ s with gate := .closed, link := .executing 0 s.now }).openEpisode))

/-- SOFT RESET, as one event: each held entry DONE with ERROR, joining the response queue in hold-arrival order; each blocked
entry forwarded with the unmatched decision, in blocked-list order; every window invalid with hit counter 0; the pool, the
blocked list and the contexts empty; the settings those of power-on; every list IDLE; every cause clear; the gate open; all
else kept (R21, R38, R58, R75, R99, R137, R153, R170). -/
def Obligations.SoftResetEvent : Prop :=
  ∀ s : State, s.LinkReady → ∃ t : State, exec .softReset s = .next (t.openEpisode.answerWith 0 (replyOnly .ok)) ∧
    (∀ i e, s.entry i = some e → e.route = .held → t.entry i = some { e with route := .done .error }) ∧
    (∀ i e, s.entry i = some e → e.route = .blocked → t.entry i = some { e with
      route := .issueWait
      decision := some { window := none, action := .pass, cls := 0, deadlineCode := 0, deadlineAction := .release,
                         fill := 0, readList := none, writeList := none } }) ∧
    (∀ i, s.routeAt i ≠ some .held → s.routeAt i ≠ some .blocked → t.entry i = s.entry i) ∧
    t.respQ = s.respQ ++ s.pool.map Slot.entry ∧ t.issueQ = s.issueQ ++ s.blocked ∧ t.pool = [] ∧ t.blocked = [] ∧
    (∀ i : WindowIndex, t.windows[i] = { s.windows[i] with valid := false, hits := 0 }) ∧
    (∀ c, t.context c = none) ∧
    t.arb = { order := .fixed, nesting := .nested, floor := 5, suppressed := 0, notifyOn := true } ∧
    (∀ l : ListOrdinal, t.answerLists[l] = { s.answerLists[l] with state := .idle }) ∧
    (∀ l : ListOrdinal, t.captureLists[l] = { s.captureLists[l] with state := .idle }) ∧
    t.causes = Causes.clear ∧ t.gate = .opened ∧ t.notify = false ∧ t.attn = false ∧
    t.ticket = s.ticket ∧ t.acceptOrder = s.acceptOrder ∧ t.cells = s.cells ∧ t.enabled = s.enabled ∧
    t.head = s.head ∧ t.episode = s.episode ∧ t.now = s.now ∧ t.preset = s.preset ∧ t.hreset = s.hreset ∧
    t.sdOut = s.sdOut ∧ t.pending = s.pending

/-! ## What every step keeps -/

/-- The invariants below hold right after reset. -/
def Obligations.ResetIsSound : Prop :=
  State.reset.Consistent ∧ State.reset.NestedDistinct ∧ State.reset.WindowsAligned ∧ State.reset.OccurrencesInRange ∧
  State.reset.ListsSound ∧ State.reset.TimersTimely ∧ State.reset.LinkSound ∧ State.reset.Settled ∧
  State.reset.PresetHolds

/-- Every step keeps the transit table, its ordered collections, the pool, the blocked list, the chains and the contexts in
agreement, within the capacities of the part, with every held and blocked entry's decision recorded (R2, R3, R13, R16, R28,
R40, R42, R46, R63, R64, R85); and in NESTED mode the classes of the OPEN contexts stay pairwise distinct (R84). -/
def Obligations.StepKeepsTheTablesConsistent : Prop :=
  ∀ s t : State, s.Consistent → s.NestedDistinct → step s = .next t → t.Consistent ∧ t.NestedDistinct

/-- Every step keeps every window's base aligned with its exponent at least 2, and a LIST window's at most 12 (R23, R24,
R31); every cause record clear or with 1 to 255 occurrences (R140); list memory in canonical form, every list descriptor
within its ranges and the areas of the engaged lists pairwise disjoint (R121, R123, R124). -/
def Obligations.StepKeepsStoredFieldsInRange : Prop :=
  (∀ s t : State, s.WindowsAligned → step s = .next t → t.WindowsAligned) ∧
  (∀ s t : State, s.OccurrencesInRange → step s = .next t → t.OccurrencesInRange) ∧
  (∀ s t : State, s.ListsSound → step s = .next t → t.ListsSound)

/-- Every step keeps every timer from running more than one tick past its time (R49, R158, R159, R167). -/
def Obligations.StepKeepsTimersTimely : Prop :=
  ∀ s t : State, s.TimersTimely → step s = .next t → t.TimersTimely

/-- Every step keeps the link's records those of frames, with every response a frame of at most 83 bytes that sums to 0 and
the gate closed while QUIESCE is EXECUTING (R155 to R158, R162, R167, R176). -/
def Obligations.StepKeepsTheLinkSound : Prop :=
  ∀ s t : State, s.LinkSound → step s = .next t → t.LinkSound

/-- Every step keeps a stall episode in progress whenever the head request is not acceptable, QUIESCE EXECUTING only while an
entry is forwarded, and no head request while a reset input is asserted (R10, R19, R22, R168). -/
def Obligations.StepKeepsSettled : Prop :=
  ∀ s t : State, s.Settled → step s = .next t → t.Settled

/-- While PRESET# is asserted every step leaves the part at its power-on values (R22, R154, R185). -/
def Obligations.StepKeepsPowerOnValuesUnderPreset : Prop :=
  ∀ s t : State, s.PresetHolds → step s = .next t → t.PresetHolds

/-- An entry in use before and after a step keeps its recorded decision, unless the step's command is SOFT RESET, as its row
or as the check byte that completes its frame, and that has forwarded the entry from BLOCKED with the unmatched decision: once
recorded, a decision changes at one event (R2, R29, R72, R75). -/
def Obligations.DecisionsChangeOnlyAtSoftReset : Prop :=
  ∀ (s t : State) (i : TransitIndex) (e e' : Entry), step s = .next t → s.entry i = some e → t.entry i = some e' →
    e'.decision = e.decision ∨
      (((∃ rest, s.pending = .softReset :: rest) ∨
          ∃ rest since, s.pending = .frameWrite 0x91 :: rest ∧ s.link = .receiving [0x6F, 0x00] since) ∧
        e.route = .blocked ∧ e'.route = .issueWait ∧ e'.decision = some Decision.unmatched)
end

