-- ==== Sys2Proof/Laws/Codes.lean ====
section
/-! SUPPORT. Byte order and frames: a field's bytes read back as the field (R174), a sealed frame sums to 0 (R156), and the
bytes of whole words read back as the words (R180). -/

namespace Sys2Proof.Machine

-- One proof at a time: proofs in parallel wait for one another on threads of their own, each with its stack.
set_option Elab.async false

@[simp] theorem halfOfBytes_bytesOfHalf (h : Half) :
    halfOfBytes (h.extractLsb' 8 8) (h.extractLsb' 0 8) = h := by
  unfold halfOfBytes
  apply BitVec.eq_of_getElem_eq
  intro i hi
  rw [BitVec.getElem_append]
  split
  · simp [BitVec.getLsbD_eq_getElem hi]
  · next h8 => simp only [BitVec.getElem_extractLsb']; rw [Nat.add_sub_cancel' (by omega)]; simp [hi]

@[simp] theorem wordOfBytes_bytesOfWord (w : Word) :
    wordOfBytes (w.extractLsb' 24 8) (w.extractLsb' 16 8) (w.extractLsb' 8 8) (w.extractLsb' 0 8) = w := by
  unfold wordOfBytes
  apply BitVec.eq_of_getElem_eq
  intro i hi
  simp only [BitVec.getElem_append, BitVec.getElem_extractLsb']
  split
  · simp [hi]
  · split
    · rw [show 8 + (i - 8) = i by omega]; simp [hi]
    · split
      · rw [show 16 + (i - 8 - 8) = i by omega]; simp [hi]
      · rw [show 24 + (i - 8 - 8 - 8) = i by omega]; simp [hi]

/-- The bytes of data words read back as the words (R180). -/
@[simp] theorem wordsOfBytes_flatMap (ws : List Word) : wordsOfBytes (ws.flatMap bytesOfWord) = some ws := by
  induction ws with
  | nil => rfl
  | cons w ws ih => simp [bytesOfWord, wordsOfBytes] at ih ⊢; simp [ih]

theorem length_flatMap_bytesOfWord (ws : List Word) : (ws.flatMap bytesOfWord).length = 4 * ws.length := by
  induction ws with
  | nil => rfl
  | cons w ws ih => simp [bytesOfWord] at ih ⊢; omega

theorem foldl_add_start (bs : List Byte) (a : Byte) : bs.foldl (· + ·) a = a + bs.foldl (· + ·) 0 := by
  induction bs generalizing a with
  | nil => simp
  | cons b bs ih => simp only [List.foldl_cons]; rw [ih (a + b), ih (0 + b)]; simp [BitVec.add_assoc]

theorem bytesSum_append (as bs : List Byte) : bytesSum (as ++ bs) = bytesSum as + bytesSum bs := by
  unfold bytesSum
  rw [List.foldl_append, foldl_add_start]

/-- A sealed frame sums to 0 modulo 256 (R156). -/
@[simp] theorem bytesSum_sealFrame (body : List Byte) : bytesSum (sealFrame body) = 0 := by
  unfold sealFrame
  rw [bytesSum_append]
  simp [bytesSum, checkByte, BitVec.add_right_neg]

@[simp] theorem length_sealFrame (body : List Byte) : (sealFrame body).length = body.length + 1 := by
  simp [sealFrame]

/-- A response frame is its payload and three bytes (R156). -/
@[simp] theorem length_responseFrame (r : Reply) : (responseFrame r).length = r.payload.length + 3 := by
  simp [responseFrame]

@[simp] theorem bytesSum_responseFrame (r : Reply) : bytesSum (responseFrame r) = 0 := bytesSum_sealFrame _

end Sys2Proof.Machine
end

