-- ==== Sys2Proof/Laws/State.lean ====
section
/-! SUPPORT. One lemma per field per primitive update of the state: what the update leaves, and, where it is short, what it
writes. -/

namespace Sys2Proof.Machine

-- One proof at a time: proofs in parallel wait for one another on threads of their own, each with its stack.
set_option Elab.async false

variable (s : State)


/-! ### setEntry -/

@[simp] theorem State.setEntry_now (i : TransitIndex) (e : Option Entry) : (s.setEntry i e).now = s.now := rfl
@[simp] theorem State.setEntry_preset (i : TransitIndex) (e : Option Entry) : (s.setEntry i e).preset = s.preset := rfl
@[simp] theorem State.setEntry_hreset (i : TransitIndex) (e : Option Entry) : (s.setEntry i e).hreset = s.hreset := rfl
@[simp] theorem State.setEntry_head (i : TransitIndex) (e : Option Entry) : (s.setEntry i e).head = s.head := rfl
@[simp] theorem State.setEntry_episode (i : TransitIndex) (e : Option Entry) : (s.setEntry i e).episode = s.episode := rfl
@[simp] theorem State.setEntry_acceptOrder (i : TransitIndex) (e : Option Entry) : (s.setEntry i e).acceptOrder = s.acceptOrder := rfl
@[simp] theorem State.setEntry_issueQ (i : TransitIndex) (e : Option Entry) : (s.setEntry i e).issueQ = s.issueQ := rfl
@[simp] theorem State.setEntry_respQ (i : TransitIndex) (e : Option Entry) : (s.setEntry i e).respQ = s.respQ := rfl
@[simp] theorem State.setEntry_blocked (i : TransitIndex) (e : Option Entry) : (s.setEntry i e).blocked = s.blocked := rfl
@[simp] theorem State.setEntry_pool (i : TransitIndex) (e : Option Entry) : (s.setEntry i e).pool = s.pool := rfl
@[simp] theorem State.setEntry_windows (i : TransitIndex) (e : Option Entry) : (s.setEntry i e).windows = s.windows := rfl
@[simp] theorem State.setEntry_arb (i : TransitIndex) (e : Option Entry) : (s.setEntry i e).arb = s.arb := rfl
@[simp] theorem State.setEntry_ticket (i : TransitIndex) (e : Option Entry) : (s.setEntry i e).ticket = s.ticket := rfl
@[simp] theorem State.setEntry_contexts (i : TransitIndex) (e : Option Entry) : (s.setEntry i e).contexts = s.contexts := rfl
@[simp] theorem State.setEntry_cells (i : TransitIndex) (e : Option Entry) : (s.setEntry i e).cells = s.cells := rfl
@[simp] theorem State.setEntry_answerLists (i : TransitIndex) (e : Option Entry) : (s.setEntry i e).answerLists = s.answerLists := rfl
@[simp] theorem State.setEntry_captureLists (i : TransitIndex) (e : Option Entry) : (s.setEntry i e).captureLists = s.captureLists := rfl
@[simp] theorem State.setEntry_causes (i : TransitIndex) (e : Option Entry) : (s.setEntry i e).causes = s.causes := rfl
@[simp] theorem State.setEntry_enabled (i : TransitIndex) (e : Option Entry) : (s.setEntry i e).enabled = s.enabled := rfl
@[simp] theorem State.setEntry_link (i : TransitIndex) (e : Option Entry) : (s.setEntry i e).link = s.link := rfl
@[simp] theorem State.setEntry_gate (i : TransitIndex) (e : Option Entry) : (s.setEntry i e).gate = s.gate := rfl
@[simp] theorem State.setEntry_sdOut (i : TransitIndex) (e : Option Entry) : (s.setEntry i e).sdOut = s.sdOut := rfl
@[simp] theorem State.setEntry_pending (i : TransitIndex) (e : Option Entry) : (s.setEntry i e).pending = s.pending := rfl

/-! ### setRoute -/

@[simp] theorem State.setRoute_now (i : TransitIndex) (r : Route) : (s.setRoute i r).now = s.now := rfl
@[simp] theorem State.setRoute_preset (i : TransitIndex) (r : Route) : (s.setRoute i r).preset = s.preset := rfl
@[simp] theorem State.setRoute_hreset (i : TransitIndex) (r : Route) : (s.setRoute i r).hreset = s.hreset := rfl
@[simp] theorem State.setRoute_head (i : TransitIndex) (r : Route) : (s.setRoute i r).head = s.head := rfl
@[simp] theorem State.setRoute_episode (i : TransitIndex) (r : Route) : (s.setRoute i r).episode = s.episode := rfl
@[simp] theorem State.setRoute_acceptOrder (i : TransitIndex) (r : Route) : (s.setRoute i r).acceptOrder = s.acceptOrder := rfl
@[simp] theorem State.setRoute_issueQ (i : TransitIndex) (r : Route) : (s.setRoute i r).issueQ = s.issueQ := rfl
@[simp] theorem State.setRoute_respQ (i : TransitIndex) (r : Route) : (s.setRoute i r).respQ = s.respQ := rfl
@[simp] theorem State.setRoute_blocked (i : TransitIndex) (r : Route) : (s.setRoute i r).blocked = s.blocked := rfl
@[simp] theorem State.setRoute_pool (i : TransitIndex) (r : Route) : (s.setRoute i r).pool = s.pool := rfl
@[simp] theorem State.setRoute_windows (i : TransitIndex) (r : Route) : (s.setRoute i r).windows = s.windows := rfl
@[simp] theorem State.setRoute_arb (i : TransitIndex) (r : Route) : (s.setRoute i r).arb = s.arb := rfl
@[simp] theorem State.setRoute_ticket (i : TransitIndex) (r : Route) : (s.setRoute i r).ticket = s.ticket := rfl
@[simp] theorem State.setRoute_contexts (i : TransitIndex) (r : Route) : (s.setRoute i r).contexts = s.contexts := rfl
@[simp] theorem State.setRoute_cells (i : TransitIndex) (r : Route) : (s.setRoute i r).cells = s.cells := rfl
@[simp] theorem State.setRoute_answerLists (i : TransitIndex) (r : Route) : (s.setRoute i r).answerLists = s.answerLists := rfl
@[simp] theorem State.setRoute_captureLists (i : TransitIndex) (r : Route) : (s.setRoute i r).captureLists = s.captureLists := rfl
@[simp] theorem State.setRoute_causes (i : TransitIndex) (r : Route) : (s.setRoute i r).causes = s.causes := rfl
@[simp] theorem State.setRoute_enabled (i : TransitIndex) (r : Route) : (s.setRoute i r).enabled = s.enabled := rfl
@[simp] theorem State.setRoute_link (i : TransitIndex) (r : Route) : (s.setRoute i r).link = s.link := rfl
@[simp] theorem State.setRoute_gate (i : TransitIndex) (r : Route) : (s.setRoute i r).gate = s.gate := rfl
@[simp] theorem State.setRoute_sdOut (i : TransitIndex) (r : Route) : (s.setRoute i r).sdOut = s.sdOut := rfl
@[simp] theorem State.setRoute_pending (i : TransitIndex) (r : Route) : (s.setRoute i r).pending = s.pending := rfl

/-! ### forward -/

@[simp] theorem State.forward_now (i : TransitIndex) : (s.forward i).now = s.now := rfl
@[simp] theorem State.forward_preset (i : TransitIndex) : (s.forward i).preset = s.preset := rfl
@[simp] theorem State.forward_hreset (i : TransitIndex) : (s.forward i).hreset = s.hreset := rfl
@[simp] theorem State.forward_head (i : TransitIndex) : (s.forward i).head = s.head := rfl
@[simp] theorem State.forward_episode (i : TransitIndex) : (s.forward i).episode = s.episode := rfl
@[simp] theorem State.forward_acceptOrder (i : TransitIndex) : (s.forward i).acceptOrder = s.acceptOrder := rfl
@[simp] theorem State.forward_respQ (i : TransitIndex) : (s.forward i).respQ = s.respQ := rfl
@[simp] theorem State.forward_blocked (i : TransitIndex) : (s.forward i).blocked = s.blocked := rfl
@[simp] theorem State.forward_pool (i : TransitIndex) : (s.forward i).pool = s.pool := rfl
@[simp] theorem State.forward_windows (i : TransitIndex) : (s.forward i).windows = s.windows := rfl
@[simp] theorem State.forward_arb (i : TransitIndex) : (s.forward i).arb = s.arb := rfl
@[simp] theorem State.forward_ticket (i : TransitIndex) : (s.forward i).ticket = s.ticket := rfl
@[simp] theorem State.forward_contexts (i : TransitIndex) : (s.forward i).contexts = s.contexts := rfl
@[simp] theorem State.forward_cells (i : TransitIndex) : (s.forward i).cells = s.cells := rfl
@[simp] theorem State.forward_answerLists (i : TransitIndex) : (s.forward i).answerLists = s.answerLists := rfl
@[simp] theorem State.forward_captureLists (i : TransitIndex) : (s.forward i).captureLists = s.captureLists := rfl
@[simp] theorem State.forward_causes (i : TransitIndex) : (s.forward i).causes = s.causes := rfl
@[simp] theorem State.forward_enabled (i : TransitIndex) : (s.forward i).enabled = s.enabled := rfl
@[simp] theorem State.forward_link (i : TransitIndex) : (s.forward i).link = s.link := rfl
@[simp] theorem State.forward_gate (i : TransitIndex) : (s.forward i).gate = s.gate := rfl
@[simp] theorem State.forward_sdOut (i : TransitIndex) : (s.forward i).sdOut = s.sdOut := rfl
@[simp] theorem State.forward_pending (i : TransitIndex) : (s.forward i).pending = s.pending := rfl

/-! ### complete -/

@[simp] theorem State.complete_now (i : TransitIndex) (r : Response) : (s.complete i r).now = s.now := rfl
@[simp] theorem State.complete_preset (i : TransitIndex) (r : Response) : (s.complete i r).preset = s.preset := rfl
@[simp] theorem State.complete_hreset (i : TransitIndex) (r : Response) : (s.complete i r).hreset = s.hreset := rfl
@[simp] theorem State.complete_head (i : TransitIndex) (r : Response) : (s.complete i r).head = s.head := rfl
@[simp] theorem State.complete_episode (i : TransitIndex) (r : Response) : (s.complete i r).episode = s.episode := rfl
@[simp] theorem State.complete_acceptOrder (i : TransitIndex) (r : Response) : (s.complete i r).acceptOrder = s.acceptOrder := rfl
@[simp] theorem State.complete_issueQ (i : TransitIndex) (r : Response) : (s.complete i r).issueQ = s.issueQ := rfl
@[simp] theorem State.complete_blocked (i : TransitIndex) (r : Response) : (s.complete i r).blocked = s.blocked := rfl
@[simp] theorem State.complete_pool (i : TransitIndex) (r : Response) : (s.complete i r).pool = s.pool := rfl
@[simp] theorem State.complete_windows (i : TransitIndex) (r : Response) : (s.complete i r).windows = s.windows := rfl
@[simp] theorem State.complete_arb (i : TransitIndex) (r : Response) : (s.complete i r).arb = s.arb := rfl
@[simp] theorem State.complete_ticket (i : TransitIndex) (r : Response) : (s.complete i r).ticket = s.ticket := rfl
@[simp] theorem State.complete_contexts (i : TransitIndex) (r : Response) : (s.complete i r).contexts = s.contexts := rfl
@[simp] theorem State.complete_cells (i : TransitIndex) (r : Response) : (s.complete i r).cells = s.cells := rfl
@[simp] theorem State.complete_answerLists (i : TransitIndex) (r : Response) : (s.complete i r).answerLists = s.answerLists := rfl
@[simp] theorem State.complete_captureLists (i : TransitIndex) (r : Response) : (s.complete i r).captureLists = s.captureLists := rfl
@[simp] theorem State.complete_causes (i : TransitIndex) (r : Response) : (s.complete i r).causes = s.causes := rfl
@[simp] theorem State.complete_enabled (i : TransitIndex) (r : Response) : (s.complete i r).enabled = s.enabled := rfl
@[simp] theorem State.complete_link (i : TransitIndex) (r : Response) : (s.complete i r).link = s.link := rfl
@[simp] theorem State.complete_gate (i : TransitIndex) (r : Response) : (s.complete i r).gate = s.gate := rfl
@[simp] theorem State.complete_sdOut (i : TransitIndex) (r : Response) : (s.complete i r).sdOut = s.sdOut := rfl
@[simp] theorem State.complete_pending (i : TransitIndex) (r : Response) : (s.complete i r).pending = s.pending := rfl

/-! ### hold -/

@[simp] theorem State.hold_now (i : TransitIndex) (how : HowHeld) (code : Nat) : (s.hold i how code).now = s.now := rfl
@[simp] theorem State.hold_preset (i : TransitIndex) (how : HowHeld) (code : Nat) : (s.hold i how code).preset = s.preset := rfl
@[simp] theorem State.hold_hreset (i : TransitIndex) (how : HowHeld) (code : Nat) : (s.hold i how code).hreset = s.hreset := rfl
@[simp] theorem State.hold_head (i : TransitIndex) (how : HowHeld) (code : Nat) : (s.hold i how code).head = s.head := rfl
@[simp] theorem State.hold_episode (i : TransitIndex) (how : HowHeld) (code : Nat) : (s.hold i how code).episode = s.episode := rfl
@[simp] theorem State.hold_acceptOrder (i : TransitIndex) (how : HowHeld) (code : Nat) : (s.hold i how code).acceptOrder = s.acceptOrder := rfl
@[simp] theorem State.hold_issueQ (i : TransitIndex) (how : HowHeld) (code : Nat) : (s.hold i how code).issueQ = s.issueQ := rfl
@[simp] theorem State.hold_respQ (i : TransitIndex) (how : HowHeld) (code : Nat) : (s.hold i how code).respQ = s.respQ := rfl
@[simp] theorem State.hold_blocked (i : TransitIndex) (how : HowHeld) (code : Nat) : (s.hold i how code).blocked = s.blocked := rfl
@[simp] theorem State.hold_windows (i : TransitIndex) (how : HowHeld) (code : Nat) : (s.hold i how code).windows = s.windows := rfl
@[simp] theorem State.hold_arb (i : TransitIndex) (how : HowHeld) (code : Nat) : (s.hold i how code).arb = s.arb := rfl
@[simp] theorem State.hold_ticket (i : TransitIndex) (how : HowHeld) (code : Nat) : (s.hold i how code).ticket = s.ticket := rfl
@[simp] theorem State.hold_contexts (i : TransitIndex) (how : HowHeld) (code : Nat) : (s.hold i how code).contexts = s.contexts := rfl
@[simp] theorem State.hold_cells (i : TransitIndex) (how : HowHeld) (code : Nat) : (s.hold i how code).cells = s.cells := rfl
@[simp] theorem State.hold_answerLists (i : TransitIndex) (how : HowHeld) (code : Nat) : (s.hold i how code).answerLists = s.answerLists := rfl
@[simp] theorem State.hold_captureLists (i : TransitIndex) (how : HowHeld) (code : Nat) : (s.hold i how code).captureLists = s.captureLists := rfl
@[simp] theorem State.hold_causes (i : TransitIndex) (how : HowHeld) (code : Nat) : (s.hold i how code).causes = s.causes := rfl
@[simp] theorem State.hold_enabled (i : TransitIndex) (how : HowHeld) (code : Nat) : (s.hold i how code).enabled = s.enabled := rfl
@[simp] theorem State.hold_link (i : TransitIndex) (how : HowHeld) (code : Nat) : (s.hold i how code).link = s.link := rfl
@[simp] theorem State.hold_gate (i : TransitIndex) (how : HowHeld) (code : Nat) : (s.hold i how code).gate = s.gate := rfl
@[simp] theorem State.hold_sdOut (i : TransitIndex) (how : HowHeld) (code : Nat) : (s.hold i how code).sdOut = s.sdOut := rfl
@[simp] theorem State.hold_pending (i : TransitIndex) (how : HowHeld) (code : Nat) : (s.hold i how code).pending = s.pending := rfl

/-! ### dropSlot -/

@[simp] theorem State.dropSlot_now (i : TransitIndex) : (s.dropSlot i).now = s.now := rfl
@[simp] theorem State.dropSlot_preset (i : TransitIndex) : (s.dropSlot i).preset = s.preset := rfl
@[simp] theorem State.dropSlot_hreset (i : TransitIndex) : (s.dropSlot i).hreset = s.hreset := rfl
@[simp] theorem State.dropSlot_head (i : TransitIndex) : (s.dropSlot i).head = s.head := rfl
@[simp] theorem State.dropSlot_episode (i : TransitIndex) : (s.dropSlot i).episode = s.episode := rfl
@[simp] theorem State.dropSlot_entries (i : TransitIndex) : (s.dropSlot i).entries = s.entries := rfl
@[simp] theorem State.dropSlot_acceptOrder (i : TransitIndex) : (s.dropSlot i).acceptOrder = s.acceptOrder := rfl
@[simp] theorem State.dropSlot_issueQ (i : TransitIndex) : (s.dropSlot i).issueQ = s.issueQ := rfl
@[simp] theorem State.dropSlot_respQ (i : TransitIndex) : (s.dropSlot i).respQ = s.respQ := rfl
@[simp] theorem State.dropSlot_blocked (i : TransitIndex) : (s.dropSlot i).blocked = s.blocked := rfl
@[simp] theorem State.dropSlot_windows (i : TransitIndex) : (s.dropSlot i).windows = s.windows := rfl
@[simp] theorem State.dropSlot_arb (i : TransitIndex) : (s.dropSlot i).arb = s.arb := rfl
@[simp] theorem State.dropSlot_ticket (i : TransitIndex) : (s.dropSlot i).ticket = s.ticket := rfl
@[simp] theorem State.dropSlot_contexts (i : TransitIndex) : (s.dropSlot i).contexts = s.contexts := rfl
@[simp] theorem State.dropSlot_cells (i : TransitIndex) : (s.dropSlot i).cells = s.cells := rfl
@[simp] theorem State.dropSlot_answerLists (i : TransitIndex) : (s.dropSlot i).answerLists = s.answerLists := rfl
@[simp] theorem State.dropSlot_captureLists (i : TransitIndex) : (s.dropSlot i).captureLists = s.captureLists := rfl
@[simp] theorem State.dropSlot_causes (i : TransitIndex) : (s.dropSlot i).causes = s.causes := rfl
@[simp] theorem State.dropSlot_enabled (i : TransitIndex) : (s.dropSlot i).enabled = s.enabled := rfl
@[simp] theorem State.dropSlot_link (i : TransitIndex) : (s.dropSlot i).link = s.link := rfl
@[simp] theorem State.dropSlot_gate (i : TransitIndex) : (s.dropSlot i).gate = s.gate := rfl
@[simp] theorem State.dropSlot_sdOut (i : TransitIndex) : (s.dropSlot i).sdOut = s.sdOut := rfl
@[simp] theorem State.dropSlot_pending (i : TransitIndex) : (s.dropSlot i).pending = s.pending := rfl

/-! ### updateSlot -/

@[simp] theorem State.updateSlot_now (i : TransitIndex) (f : Slot → Slot) : (s.updateSlot i f).now = s.now := rfl
@[simp] theorem State.updateSlot_preset (i : TransitIndex) (f : Slot → Slot) : (s.updateSlot i f).preset = s.preset := rfl
@[simp] theorem State.updateSlot_hreset (i : TransitIndex) (f : Slot → Slot) : (s.updateSlot i f).hreset = s.hreset := rfl
@[simp] theorem State.updateSlot_head (i : TransitIndex) (f : Slot → Slot) : (s.updateSlot i f).head = s.head := rfl
@[simp] theorem State.updateSlot_episode (i : TransitIndex) (f : Slot → Slot) : (s.updateSlot i f).episode = s.episode := rfl
@[simp] theorem State.updateSlot_entries (i : TransitIndex) (f : Slot → Slot) : (s.updateSlot i f).entries = s.entries := rfl
@[simp] theorem State.updateSlot_acceptOrder (i : TransitIndex) (f : Slot → Slot) : (s.updateSlot i f).acceptOrder = s.acceptOrder := rfl
@[simp] theorem State.updateSlot_issueQ (i : TransitIndex) (f : Slot → Slot) : (s.updateSlot i f).issueQ = s.issueQ := rfl
@[simp] theorem State.updateSlot_respQ (i : TransitIndex) (f : Slot → Slot) : (s.updateSlot i f).respQ = s.respQ := rfl
@[simp] theorem State.updateSlot_blocked (i : TransitIndex) (f : Slot → Slot) : (s.updateSlot i f).blocked = s.blocked := rfl
@[simp] theorem State.updateSlot_windows (i : TransitIndex) (f : Slot → Slot) : (s.updateSlot i f).windows = s.windows := rfl
@[simp] theorem State.updateSlot_arb (i : TransitIndex) (f : Slot → Slot) : (s.updateSlot i f).arb = s.arb := rfl
@[simp] theorem State.updateSlot_ticket (i : TransitIndex) (f : Slot → Slot) : (s.updateSlot i f).ticket = s.ticket := rfl
@[simp] theorem State.updateSlot_contexts (i : TransitIndex) (f : Slot → Slot) : (s.updateSlot i f).contexts = s.contexts := rfl
@[simp] theorem State.updateSlot_cells (i : TransitIndex) (f : Slot → Slot) : (s.updateSlot i f).cells = s.cells := rfl
@[simp] theorem State.updateSlot_answerLists (i : TransitIndex) (f : Slot → Slot) : (s.updateSlot i f).answerLists = s.answerLists := rfl
@[simp] theorem State.updateSlot_captureLists (i : TransitIndex) (f : Slot → Slot) : (s.updateSlot i f).captureLists = s.captureLists := rfl
@[simp] theorem State.updateSlot_causes (i : TransitIndex) (f : Slot → Slot) : (s.updateSlot i f).causes = s.causes := rfl
@[simp] theorem State.updateSlot_enabled (i : TransitIndex) (f : Slot → Slot) : (s.updateSlot i f).enabled = s.enabled := rfl
@[simp] theorem State.updateSlot_link (i : TransitIndex) (f : Slot → Slot) : (s.updateSlot i f).link = s.link := rfl
@[simp] theorem State.updateSlot_gate (i : TransitIndex) (f : Slot → Slot) : (s.updateSlot i f).gate = s.gate := rfl
@[simp] theorem State.updateSlot_sdOut (i : TransitIndex) (f : Slot → Slot) : (s.updateSlot i f).sdOut = s.sdOut := rfl
@[simp] theorem State.updateSlot_pending (i : TransitIndex) (f : Slot → Slot) : (s.updateSlot i f).pending = s.pending := rfl

/-! ### setContext -/

@[simp] theorem State.setContext_now (c : ContextIndex) (o : Option OpenContext) : (s.setContext c o).now = s.now := rfl
@[simp] theorem State.setContext_preset (c : ContextIndex) (o : Option OpenContext) : (s.setContext c o).preset = s.preset := rfl
@[simp] theorem State.setContext_hreset (c : ContextIndex) (o : Option OpenContext) : (s.setContext c o).hreset = s.hreset := rfl
@[simp] theorem State.setContext_head (c : ContextIndex) (o : Option OpenContext) : (s.setContext c o).head = s.head := rfl
@[simp] theorem State.setContext_episode (c : ContextIndex) (o : Option OpenContext) : (s.setContext c o).episode = s.episode := rfl
@[simp] theorem State.setContext_entries (c : ContextIndex) (o : Option OpenContext) : (s.setContext c o).entries = s.entries := rfl
@[simp] theorem State.setContext_acceptOrder (c : ContextIndex) (o : Option OpenContext) : (s.setContext c o).acceptOrder = s.acceptOrder := rfl
@[simp] theorem State.setContext_issueQ (c : ContextIndex) (o : Option OpenContext) : (s.setContext c o).issueQ = s.issueQ := rfl
@[simp] theorem State.setContext_respQ (c : ContextIndex) (o : Option OpenContext) : (s.setContext c o).respQ = s.respQ := rfl
@[simp] theorem State.setContext_blocked (c : ContextIndex) (o : Option OpenContext) : (s.setContext c o).blocked = s.blocked := rfl
@[simp] theorem State.setContext_pool (c : ContextIndex) (o : Option OpenContext) : (s.setContext c o).pool = s.pool := rfl
@[simp] theorem State.setContext_windows (c : ContextIndex) (o : Option OpenContext) : (s.setContext c o).windows = s.windows := rfl
@[simp] theorem State.setContext_arb (c : ContextIndex) (o : Option OpenContext) : (s.setContext c o).arb = s.arb := rfl
@[simp] theorem State.setContext_ticket (c : ContextIndex) (o : Option OpenContext) : (s.setContext c o).ticket = s.ticket := rfl
@[simp] theorem State.setContext_cells (c : ContextIndex) (o : Option OpenContext) : (s.setContext c o).cells = s.cells := rfl
@[simp] theorem State.setContext_answerLists (c : ContextIndex) (o : Option OpenContext) : (s.setContext c o).answerLists = s.answerLists := rfl
@[simp] theorem State.setContext_captureLists (c : ContextIndex) (o : Option OpenContext) : (s.setContext c o).captureLists = s.captureLists := rfl
@[simp] theorem State.setContext_causes (c : ContextIndex) (o : Option OpenContext) : (s.setContext c o).causes = s.causes := rfl
@[simp] theorem State.setContext_enabled (c : ContextIndex) (o : Option OpenContext) : (s.setContext c o).enabled = s.enabled := rfl
@[simp] theorem State.setContext_link (c : ContextIndex) (o : Option OpenContext) : (s.setContext c o).link = s.link := rfl
@[simp] theorem State.setContext_gate (c : ContextIndex) (o : Option OpenContext) : (s.setContext c o).gate = s.gate := rfl
@[simp] theorem State.setContext_sdOut (c : ContextIndex) (o : Option OpenContext) : (s.setContext c o).sdOut = s.sdOut := rfl
@[simp] theorem State.setContext_pending (c : ContextIndex) (o : Option OpenContext) : (s.setContext c o).pending = s.pending := rfl

/-! ### postDeadline -/

@[simp] theorem State.postDeadline_now (d : DeadlineDetail) : (s.postDeadline d).now = s.now := rfl
@[simp] theorem State.postDeadline_preset (d : DeadlineDetail) : (s.postDeadline d).preset = s.preset := rfl
@[simp] theorem State.postDeadline_hreset (d : DeadlineDetail) : (s.postDeadline d).hreset = s.hreset := rfl
@[simp] theorem State.postDeadline_head (d : DeadlineDetail) : (s.postDeadline d).head = s.head := rfl
@[simp] theorem State.postDeadline_episode (d : DeadlineDetail) : (s.postDeadline d).episode = s.episode := rfl
@[simp] theorem State.postDeadline_entries (d : DeadlineDetail) : (s.postDeadline d).entries = s.entries := rfl
@[simp] theorem State.postDeadline_acceptOrder (d : DeadlineDetail) : (s.postDeadline d).acceptOrder = s.acceptOrder := rfl
@[simp] theorem State.postDeadline_issueQ (d : DeadlineDetail) : (s.postDeadline d).issueQ = s.issueQ := rfl
@[simp] theorem State.postDeadline_respQ (d : DeadlineDetail) : (s.postDeadline d).respQ = s.respQ := rfl
@[simp] theorem State.postDeadline_blocked (d : DeadlineDetail) : (s.postDeadline d).blocked = s.blocked := rfl
@[simp] theorem State.postDeadline_pool (d : DeadlineDetail) : (s.postDeadline d).pool = s.pool := rfl
@[simp] theorem State.postDeadline_windows (d : DeadlineDetail) : (s.postDeadline d).windows = s.windows := rfl
@[simp] theorem State.postDeadline_arb (d : DeadlineDetail) : (s.postDeadline d).arb = s.arb := rfl
@[simp] theorem State.postDeadline_ticket (d : DeadlineDetail) : (s.postDeadline d).ticket = s.ticket := rfl
@[simp] theorem State.postDeadline_contexts (d : DeadlineDetail) : (s.postDeadline d).contexts = s.contexts := rfl
@[simp] theorem State.postDeadline_cells (d : DeadlineDetail) : (s.postDeadline d).cells = s.cells := rfl
@[simp] theorem State.postDeadline_answerLists (d : DeadlineDetail) : (s.postDeadline d).answerLists = s.answerLists := rfl
@[simp] theorem State.postDeadline_captureLists (d : DeadlineDetail) : (s.postDeadline d).captureLists = s.captureLists := rfl
@[simp] theorem State.postDeadline_enabled (d : DeadlineDetail) : (s.postDeadline d).enabled = s.enabled := rfl
@[simp] theorem State.postDeadline_link (d : DeadlineDetail) : (s.postDeadline d).link = s.link := rfl
@[simp] theorem State.postDeadline_gate (d : DeadlineDetail) : (s.postDeadline d).gate = s.gate := rfl
@[simp] theorem State.postDeadline_sdOut (d : DeadlineDetail) : (s.postDeadline d).sdOut = s.sdOut := rfl
@[simp] theorem State.postDeadline_pending (d : DeadlineDetail) : (s.postDeadline d).pending = s.pending := rfl

/-! ### postHoldFull -/

@[simp] theorem State.postHoldFull_now (d : HoldFullDetail) : (s.postHoldFull d).now = s.now := rfl
@[simp] theorem State.postHoldFull_preset (d : HoldFullDetail) : (s.postHoldFull d).preset = s.preset := rfl
@[simp] theorem State.postHoldFull_hreset (d : HoldFullDetail) : (s.postHoldFull d).hreset = s.hreset := rfl
@[simp] theorem State.postHoldFull_head (d : HoldFullDetail) : (s.postHoldFull d).head = s.head := rfl
@[simp] theorem State.postHoldFull_episode (d : HoldFullDetail) : (s.postHoldFull d).episode = s.episode := rfl
@[simp] theorem State.postHoldFull_entries (d : HoldFullDetail) : (s.postHoldFull d).entries = s.entries := rfl
@[simp] theorem State.postHoldFull_acceptOrder (d : HoldFullDetail) : (s.postHoldFull d).acceptOrder = s.acceptOrder := rfl
@[simp] theorem State.postHoldFull_issueQ (d : HoldFullDetail) : (s.postHoldFull d).issueQ = s.issueQ := rfl
@[simp] theorem State.postHoldFull_respQ (d : HoldFullDetail) : (s.postHoldFull d).respQ = s.respQ := rfl
@[simp] theorem State.postHoldFull_blocked (d : HoldFullDetail) : (s.postHoldFull d).blocked = s.blocked := rfl
@[simp] theorem State.postHoldFull_pool (d : HoldFullDetail) : (s.postHoldFull d).pool = s.pool := rfl
@[simp] theorem State.postHoldFull_windows (d : HoldFullDetail) : (s.postHoldFull d).windows = s.windows := rfl
@[simp] theorem State.postHoldFull_arb (d : HoldFullDetail) : (s.postHoldFull d).arb = s.arb := rfl
@[simp] theorem State.postHoldFull_ticket (d : HoldFullDetail) : (s.postHoldFull d).ticket = s.ticket := rfl
@[simp] theorem State.postHoldFull_contexts (d : HoldFullDetail) : (s.postHoldFull d).contexts = s.contexts := rfl
@[simp] theorem State.postHoldFull_cells (d : HoldFullDetail) : (s.postHoldFull d).cells = s.cells := rfl
@[simp] theorem State.postHoldFull_answerLists (d : HoldFullDetail) : (s.postHoldFull d).answerLists = s.answerLists := rfl
@[simp] theorem State.postHoldFull_captureLists (d : HoldFullDetail) : (s.postHoldFull d).captureLists = s.captureLists := rfl
@[simp] theorem State.postHoldFull_enabled (d : HoldFullDetail) : (s.postHoldFull d).enabled = s.enabled := rfl
@[simp] theorem State.postHoldFull_link (d : HoldFullDetail) : (s.postHoldFull d).link = s.link := rfl
@[simp] theorem State.postHoldFull_gate (d : HoldFullDetail) : (s.postHoldFull d).gate = s.gate := rfl
@[simp] theorem State.postHoldFull_sdOut (d : HoldFullDetail) : (s.postHoldFull d).sdOut = s.sdOut := rfl
@[simp] theorem State.postHoldFull_pending (d : HoldFullDetail) : (s.postHoldFull d).pending = s.pending := rfl

/-! ### postBlockFull -/

@[simp] theorem State.postBlockFull_now (d : BlockFullDetail) : (s.postBlockFull d).now = s.now := rfl
@[simp] theorem State.postBlockFull_preset (d : BlockFullDetail) : (s.postBlockFull d).preset = s.preset := rfl
@[simp] theorem State.postBlockFull_hreset (d : BlockFullDetail) : (s.postBlockFull d).hreset = s.hreset := rfl
@[simp] theorem State.postBlockFull_head (d : BlockFullDetail) : (s.postBlockFull d).head = s.head := rfl
@[simp] theorem State.postBlockFull_episode (d : BlockFullDetail) : (s.postBlockFull d).episode = s.episode := rfl
@[simp] theorem State.postBlockFull_entries (d : BlockFullDetail) : (s.postBlockFull d).entries = s.entries := rfl
@[simp] theorem State.postBlockFull_acceptOrder (d : BlockFullDetail) : (s.postBlockFull d).acceptOrder = s.acceptOrder := rfl
@[simp] theorem State.postBlockFull_issueQ (d : BlockFullDetail) : (s.postBlockFull d).issueQ = s.issueQ := rfl
@[simp] theorem State.postBlockFull_respQ (d : BlockFullDetail) : (s.postBlockFull d).respQ = s.respQ := rfl
@[simp] theorem State.postBlockFull_blocked (d : BlockFullDetail) : (s.postBlockFull d).blocked = s.blocked := rfl
@[simp] theorem State.postBlockFull_pool (d : BlockFullDetail) : (s.postBlockFull d).pool = s.pool := rfl
@[simp] theorem State.postBlockFull_windows (d : BlockFullDetail) : (s.postBlockFull d).windows = s.windows := rfl
@[simp] theorem State.postBlockFull_arb (d : BlockFullDetail) : (s.postBlockFull d).arb = s.arb := rfl
@[simp] theorem State.postBlockFull_ticket (d : BlockFullDetail) : (s.postBlockFull d).ticket = s.ticket := rfl
@[simp] theorem State.postBlockFull_contexts (d : BlockFullDetail) : (s.postBlockFull d).contexts = s.contexts := rfl
@[simp] theorem State.postBlockFull_cells (d : BlockFullDetail) : (s.postBlockFull d).cells = s.cells := rfl
@[simp] theorem State.postBlockFull_answerLists (d : BlockFullDetail) : (s.postBlockFull d).answerLists = s.answerLists := rfl
@[simp] theorem State.postBlockFull_captureLists (d : BlockFullDetail) : (s.postBlockFull d).captureLists = s.captureLists := rfl
@[simp] theorem State.postBlockFull_enabled (d : BlockFullDetail) : (s.postBlockFull d).enabled = s.enabled := rfl
@[simp] theorem State.postBlockFull_link (d : BlockFullDetail) : (s.postBlockFull d).link = s.link := rfl
@[simp] theorem State.postBlockFull_gate (d : BlockFullDetail) : (s.postBlockFull d).gate = s.gate := rfl
@[simp] theorem State.postBlockFull_sdOut (d : BlockFullDetail) : (s.postBlockFull d).sdOut = s.sdOut := rfl
@[simp] theorem State.postBlockFull_pending (d : BlockFullDetail) : (s.postBlockFull d).pending = s.pending := rfl

/-! ### postAnswerOut -/

@[simp] theorem State.postAnswerOut_now (l : ListOrdinal) : (s.postAnswerOut l).now = s.now := rfl
@[simp] theorem State.postAnswerOut_preset (l : ListOrdinal) : (s.postAnswerOut l).preset = s.preset := rfl
@[simp] theorem State.postAnswerOut_hreset (l : ListOrdinal) : (s.postAnswerOut l).hreset = s.hreset := rfl
@[simp] theorem State.postAnswerOut_head (l : ListOrdinal) : (s.postAnswerOut l).head = s.head := rfl
@[simp] theorem State.postAnswerOut_episode (l : ListOrdinal) : (s.postAnswerOut l).episode = s.episode := rfl
@[simp] theorem State.postAnswerOut_entries (l : ListOrdinal) : (s.postAnswerOut l).entries = s.entries := rfl
@[simp] theorem State.postAnswerOut_acceptOrder (l : ListOrdinal) : (s.postAnswerOut l).acceptOrder = s.acceptOrder := rfl
@[simp] theorem State.postAnswerOut_issueQ (l : ListOrdinal) : (s.postAnswerOut l).issueQ = s.issueQ := rfl
@[simp] theorem State.postAnswerOut_respQ (l : ListOrdinal) : (s.postAnswerOut l).respQ = s.respQ := rfl
@[simp] theorem State.postAnswerOut_blocked (l : ListOrdinal) : (s.postAnswerOut l).blocked = s.blocked := rfl
@[simp] theorem State.postAnswerOut_pool (l : ListOrdinal) : (s.postAnswerOut l).pool = s.pool := rfl
@[simp] theorem State.postAnswerOut_windows (l : ListOrdinal) : (s.postAnswerOut l).windows = s.windows := rfl
@[simp] theorem State.postAnswerOut_arb (l : ListOrdinal) : (s.postAnswerOut l).arb = s.arb := rfl
@[simp] theorem State.postAnswerOut_ticket (l : ListOrdinal) : (s.postAnswerOut l).ticket = s.ticket := rfl
@[simp] theorem State.postAnswerOut_contexts (l : ListOrdinal) : (s.postAnswerOut l).contexts = s.contexts := rfl
@[simp] theorem State.postAnswerOut_cells (l : ListOrdinal) : (s.postAnswerOut l).cells = s.cells := rfl
@[simp] theorem State.postAnswerOut_answerLists (l : ListOrdinal) : (s.postAnswerOut l).answerLists = s.answerLists := rfl
@[simp] theorem State.postAnswerOut_captureLists (l : ListOrdinal) : (s.postAnswerOut l).captureLists = s.captureLists := rfl
@[simp] theorem State.postAnswerOut_enabled (l : ListOrdinal) : (s.postAnswerOut l).enabled = s.enabled := rfl
@[simp] theorem State.postAnswerOut_link (l : ListOrdinal) : (s.postAnswerOut l).link = s.link := rfl
@[simp] theorem State.postAnswerOut_gate (l : ListOrdinal) : (s.postAnswerOut l).gate = s.gate := rfl
@[simp] theorem State.postAnswerOut_sdOut (l : ListOrdinal) : (s.postAnswerOut l).sdOut = s.sdOut := rfl
@[simp] theorem State.postAnswerOut_pending (l : ListOrdinal) : (s.postAnswerOut l).pending = s.pending := rfl

/-! ### postCaptureFull -/

@[simp] theorem State.postCaptureFull_now (l : ListOrdinal) : (s.postCaptureFull l).now = s.now := rfl
@[simp] theorem State.postCaptureFull_preset (l : ListOrdinal) : (s.postCaptureFull l).preset = s.preset := rfl
@[simp] theorem State.postCaptureFull_hreset (l : ListOrdinal) : (s.postCaptureFull l).hreset = s.hreset := rfl
@[simp] theorem State.postCaptureFull_head (l : ListOrdinal) : (s.postCaptureFull l).head = s.head := rfl
@[simp] theorem State.postCaptureFull_episode (l : ListOrdinal) : (s.postCaptureFull l).episode = s.episode := rfl
@[simp] theorem State.postCaptureFull_entries (l : ListOrdinal) : (s.postCaptureFull l).entries = s.entries := rfl
@[simp] theorem State.postCaptureFull_acceptOrder (l : ListOrdinal) : (s.postCaptureFull l).acceptOrder = s.acceptOrder := rfl
@[simp] theorem State.postCaptureFull_issueQ (l : ListOrdinal) : (s.postCaptureFull l).issueQ = s.issueQ := rfl
@[simp] theorem State.postCaptureFull_respQ (l : ListOrdinal) : (s.postCaptureFull l).respQ = s.respQ := rfl
@[simp] theorem State.postCaptureFull_blocked (l : ListOrdinal) : (s.postCaptureFull l).blocked = s.blocked := rfl
@[simp] theorem State.postCaptureFull_pool (l : ListOrdinal) : (s.postCaptureFull l).pool = s.pool := rfl
@[simp] theorem State.postCaptureFull_windows (l : ListOrdinal) : (s.postCaptureFull l).windows = s.windows := rfl
@[simp] theorem State.postCaptureFull_arb (l : ListOrdinal) : (s.postCaptureFull l).arb = s.arb := rfl
@[simp] theorem State.postCaptureFull_ticket (l : ListOrdinal) : (s.postCaptureFull l).ticket = s.ticket := rfl
@[simp] theorem State.postCaptureFull_contexts (l : ListOrdinal) : (s.postCaptureFull l).contexts = s.contexts := rfl
@[simp] theorem State.postCaptureFull_cells (l : ListOrdinal) : (s.postCaptureFull l).cells = s.cells := rfl
@[simp] theorem State.postCaptureFull_answerLists (l : ListOrdinal) : (s.postCaptureFull l).answerLists = s.answerLists := rfl
@[simp] theorem State.postCaptureFull_captureLists (l : ListOrdinal) : (s.postCaptureFull l).captureLists = s.captureLists := rfl
@[simp] theorem State.postCaptureFull_enabled (l : ListOrdinal) : (s.postCaptureFull l).enabled = s.enabled := rfl
@[simp] theorem State.postCaptureFull_link (l : ListOrdinal) : (s.postCaptureFull l).link = s.link := rfl
@[simp] theorem State.postCaptureFull_gate (l : ListOrdinal) : (s.postCaptureFull l).gate = s.gate := rfl
@[simp] theorem State.postCaptureFull_sdOut (l : ListOrdinal) : (s.postCaptureFull l).sdOut = s.sdOut := rfl
@[simp] theorem State.postCaptureFull_pending (l : ListOrdinal) : (s.postCaptureFull l).pending = s.pending := rfl

/-! ### postRefusal -/

@[simp] theorem State.postRefusal_now (d : RefusalDetail) : (s.postRefusal d).now = s.now := rfl
@[simp] theorem State.postRefusal_preset (d : RefusalDetail) : (s.postRefusal d).preset = s.preset := rfl
@[simp] theorem State.postRefusal_hreset (d : RefusalDetail) : (s.postRefusal d).hreset = s.hreset := rfl
@[simp] theorem State.postRefusal_head (d : RefusalDetail) : (s.postRefusal d).head = s.head := rfl
@[simp] theorem State.postRefusal_episode (d : RefusalDetail) : (s.postRefusal d).episode = s.episode := rfl
@[simp] theorem State.postRefusal_entries (d : RefusalDetail) : (s.postRefusal d).entries = s.entries := rfl
@[simp] theorem State.postRefusal_acceptOrder (d : RefusalDetail) : (s.postRefusal d).acceptOrder = s.acceptOrder := rfl
@[simp] theorem State.postRefusal_issueQ (d : RefusalDetail) : (s.postRefusal d).issueQ = s.issueQ := rfl
@[simp] theorem State.postRefusal_respQ (d : RefusalDetail) : (s.postRefusal d).respQ = s.respQ := rfl
@[simp] theorem State.postRefusal_blocked (d : RefusalDetail) : (s.postRefusal d).blocked = s.blocked := rfl
@[simp] theorem State.postRefusal_pool (d : RefusalDetail) : (s.postRefusal d).pool = s.pool := rfl
@[simp] theorem State.postRefusal_windows (d : RefusalDetail) : (s.postRefusal d).windows = s.windows := rfl
@[simp] theorem State.postRefusal_arb (d : RefusalDetail) : (s.postRefusal d).arb = s.arb := rfl
@[simp] theorem State.postRefusal_ticket (d : RefusalDetail) : (s.postRefusal d).ticket = s.ticket := rfl
@[simp] theorem State.postRefusal_contexts (d : RefusalDetail) : (s.postRefusal d).contexts = s.contexts := rfl
@[simp] theorem State.postRefusal_cells (d : RefusalDetail) : (s.postRefusal d).cells = s.cells := rfl
@[simp] theorem State.postRefusal_answerLists (d : RefusalDetail) : (s.postRefusal d).answerLists = s.answerLists := rfl
@[simp] theorem State.postRefusal_captureLists (d : RefusalDetail) : (s.postRefusal d).captureLists = s.captureLists := rfl
@[simp] theorem State.postRefusal_enabled (d : RefusalDetail) : (s.postRefusal d).enabled = s.enabled := rfl
@[simp] theorem State.postRefusal_link (d : RefusalDetail) : (s.postRefusal d).link = s.link := rfl
@[simp] theorem State.postRefusal_gate (d : RefusalDetail) : (s.postRefusal d).gate = s.gate := rfl
@[simp] theorem State.postRefusal_sdOut (d : RefusalDetail) : (s.postRefusal d).sdOut = s.sdOut := rfl
@[simp] theorem State.postRefusal_pending (d : RefusalDetail) : (s.postRefusal d).pending = s.pending := rfl

/-! ### postMemoryError -/

@[simp] theorem State.postMemoryError_now (d : MemoryErrorDetail) : (s.postMemoryError d).now = s.now := rfl
@[simp] theorem State.postMemoryError_preset (d : MemoryErrorDetail) : (s.postMemoryError d).preset = s.preset := rfl
@[simp] theorem State.postMemoryError_hreset (d : MemoryErrorDetail) : (s.postMemoryError d).hreset = s.hreset := rfl
@[simp] theorem State.postMemoryError_head (d : MemoryErrorDetail) : (s.postMemoryError d).head = s.head := rfl
@[simp] theorem State.postMemoryError_episode (d : MemoryErrorDetail) : (s.postMemoryError d).episode = s.episode := rfl
@[simp] theorem State.postMemoryError_entries (d : MemoryErrorDetail) : (s.postMemoryError d).entries = s.entries := rfl
@[simp] theorem State.postMemoryError_acceptOrder (d : MemoryErrorDetail) : (s.postMemoryError d).acceptOrder = s.acceptOrder := rfl
@[simp] theorem State.postMemoryError_issueQ (d : MemoryErrorDetail) : (s.postMemoryError d).issueQ = s.issueQ := rfl
@[simp] theorem State.postMemoryError_respQ (d : MemoryErrorDetail) : (s.postMemoryError d).respQ = s.respQ := rfl
@[simp] theorem State.postMemoryError_blocked (d : MemoryErrorDetail) : (s.postMemoryError d).blocked = s.blocked := rfl
@[simp] theorem State.postMemoryError_pool (d : MemoryErrorDetail) : (s.postMemoryError d).pool = s.pool := rfl
@[simp] theorem State.postMemoryError_windows (d : MemoryErrorDetail) : (s.postMemoryError d).windows = s.windows := rfl
@[simp] theorem State.postMemoryError_arb (d : MemoryErrorDetail) : (s.postMemoryError d).arb = s.arb := rfl
@[simp] theorem State.postMemoryError_ticket (d : MemoryErrorDetail) : (s.postMemoryError d).ticket = s.ticket := rfl
@[simp] theorem State.postMemoryError_contexts (d : MemoryErrorDetail) : (s.postMemoryError d).contexts = s.contexts := rfl
@[simp] theorem State.postMemoryError_cells (d : MemoryErrorDetail) : (s.postMemoryError d).cells = s.cells := rfl
@[simp] theorem State.postMemoryError_answerLists (d : MemoryErrorDetail) : (s.postMemoryError d).answerLists = s.answerLists := rfl
@[simp] theorem State.postMemoryError_captureLists (d : MemoryErrorDetail) : (s.postMemoryError d).captureLists = s.captureLists := rfl
@[simp] theorem State.postMemoryError_enabled (d : MemoryErrorDetail) : (s.postMemoryError d).enabled = s.enabled := rfl
@[simp] theorem State.postMemoryError_link (d : MemoryErrorDetail) : (s.postMemoryError d).link = s.link := rfl
@[simp] theorem State.postMemoryError_gate (d : MemoryErrorDetail) : (s.postMemoryError d).gate = s.gate := rfl
@[simp] theorem State.postMemoryError_sdOut (d : MemoryErrorDetail) : (s.postMemoryError d).sdOut = s.sdOut := rfl
@[simp] theorem State.postMemoryError_pending (d : MemoryErrorDetail) : (s.postMemoryError d).pending = s.pending := rfl

/-! ### postTagClash -/

@[simp] theorem State.postTagClash_now (d : TagClashDetail) : (s.postTagClash d).now = s.now := rfl
@[simp] theorem State.postTagClash_preset (d : TagClashDetail) : (s.postTagClash d).preset = s.preset := rfl
@[simp] theorem State.postTagClash_hreset (d : TagClashDetail) : (s.postTagClash d).hreset = s.hreset := rfl
@[simp] theorem State.postTagClash_head (d : TagClashDetail) : (s.postTagClash d).head = s.head := rfl
@[simp] theorem State.postTagClash_episode (d : TagClashDetail) : (s.postTagClash d).episode = s.episode := rfl
@[simp] theorem State.postTagClash_entries (d : TagClashDetail) : (s.postTagClash d).entries = s.entries := rfl
@[simp] theorem State.postTagClash_acceptOrder (d : TagClashDetail) : (s.postTagClash d).acceptOrder = s.acceptOrder := rfl
@[simp] theorem State.postTagClash_issueQ (d : TagClashDetail) : (s.postTagClash d).issueQ = s.issueQ := rfl
@[simp] theorem State.postTagClash_respQ (d : TagClashDetail) : (s.postTagClash d).respQ = s.respQ := rfl
@[simp] theorem State.postTagClash_blocked (d : TagClashDetail) : (s.postTagClash d).blocked = s.blocked := rfl
@[simp] theorem State.postTagClash_pool (d : TagClashDetail) : (s.postTagClash d).pool = s.pool := rfl
@[simp] theorem State.postTagClash_windows (d : TagClashDetail) : (s.postTagClash d).windows = s.windows := rfl
@[simp] theorem State.postTagClash_arb (d : TagClashDetail) : (s.postTagClash d).arb = s.arb := rfl
@[simp] theorem State.postTagClash_ticket (d : TagClashDetail) : (s.postTagClash d).ticket = s.ticket := rfl
@[simp] theorem State.postTagClash_contexts (d : TagClashDetail) : (s.postTagClash d).contexts = s.contexts := rfl
@[simp] theorem State.postTagClash_cells (d : TagClashDetail) : (s.postTagClash d).cells = s.cells := rfl
@[simp] theorem State.postTagClash_answerLists (d : TagClashDetail) : (s.postTagClash d).answerLists = s.answerLists := rfl
@[simp] theorem State.postTagClash_captureLists (d : TagClashDetail) : (s.postTagClash d).captureLists = s.captureLists := rfl
@[simp] theorem State.postTagClash_enabled (d : TagClashDetail) : (s.postTagClash d).enabled = s.enabled := rfl
@[simp] theorem State.postTagClash_link (d : TagClashDetail) : (s.postTagClash d).link = s.link := rfl
@[simp] theorem State.postTagClash_gate (d : TagClashDetail) : (s.postTagClash d).gate = s.gate := rfl
@[simp] theorem State.postTagClash_sdOut (d : TagClashDetail) : (s.postTagClash d).sdOut = s.sdOut := rfl
@[simp] theorem State.postTagClash_pending (d : TagClashDetail) : (s.postTagClash d).pending = s.pending := rfl

/-! ### postLinkFault -/

@[simp] theorem State.postLinkFault_now (d : LinkFaultDetail) : (s.postLinkFault d).now = s.now := rfl
@[simp] theorem State.postLinkFault_preset (d : LinkFaultDetail) : (s.postLinkFault d).preset = s.preset := rfl
@[simp] theorem State.postLinkFault_hreset (d : LinkFaultDetail) : (s.postLinkFault d).hreset = s.hreset := rfl
@[simp] theorem State.postLinkFault_head (d : LinkFaultDetail) : (s.postLinkFault d).head = s.head := rfl
@[simp] theorem State.postLinkFault_episode (d : LinkFaultDetail) : (s.postLinkFault d).episode = s.episode := rfl
@[simp] theorem State.postLinkFault_entries (d : LinkFaultDetail) : (s.postLinkFault d).entries = s.entries := rfl
@[simp] theorem State.postLinkFault_acceptOrder (d : LinkFaultDetail) : (s.postLinkFault d).acceptOrder = s.acceptOrder := rfl
@[simp] theorem State.postLinkFault_issueQ (d : LinkFaultDetail) : (s.postLinkFault d).issueQ = s.issueQ := rfl
@[simp] theorem State.postLinkFault_respQ (d : LinkFaultDetail) : (s.postLinkFault d).respQ = s.respQ := rfl
@[simp] theorem State.postLinkFault_blocked (d : LinkFaultDetail) : (s.postLinkFault d).blocked = s.blocked := rfl
@[simp] theorem State.postLinkFault_pool (d : LinkFaultDetail) : (s.postLinkFault d).pool = s.pool := rfl
@[simp] theorem State.postLinkFault_windows (d : LinkFaultDetail) : (s.postLinkFault d).windows = s.windows := rfl
@[simp] theorem State.postLinkFault_arb (d : LinkFaultDetail) : (s.postLinkFault d).arb = s.arb := rfl
@[simp] theorem State.postLinkFault_ticket (d : LinkFaultDetail) : (s.postLinkFault d).ticket = s.ticket := rfl
@[simp] theorem State.postLinkFault_contexts (d : LinkFaultDetail) : (s.postLinkFault d).contexts = s.contexts := rfl
@[simp] theorem State.postLinkFault_cells (d : LinkFaultDetail) : (s.postLinkFault d).cells = s.cells := rfl
@[simp] theorem State.postLinkFault_answerLists (d : LinkFaultDetail) : (s.postLinkFault d).answerLists = s.answerLists := rfl
@[simp] theorem State.postLinkFault_captureLists (d : LinkFaultDetail) : (s.postLinkFault d).captureLists = s.captureLists := rfl
@[simp] theorem State.postLinkFault_enabled (d : LinkFaultDetail) : (s.postLinkFault d).enabled = s.enabled := rfl
@[simp] theorem State.postLinkFault_link (d : LinkFaultDetail) : (s.postLinkFault d).link = s.link := rfl
@[simp] theorem State.postLinkFault_gate (d : LinkFaultDetail) : (s.postLinkFault d).gate = s.gate := rfl
@[simp] theorem State.postLinkFault_sdOut (d : LinkFaultDetail) : (s.postLinkFault d).sdOut = s.sdOut := rfl
@[simp] theorem State.postLinkFault_pending (d : LinkFaultDetail) : (s.postLinkFault d).pending = s.pending := rfl

/-! ### postHostReset -/

@[simp] theorem State.postHostReset_now (d : HostResetDetail) : (s.postHostReset d).now = s.now := rfl
@[simp] theorem State.postHostReset_preset (d : HostResetDetail) : (s.postHostReset d).preset = s.preset := rfl
@[simp] theorem State.postHostReset_hreset (d : HostResetDetail) : (s.postHostReset d).hreset = s.hreset := rfl
@[simp] theorem State.postHostReset_head (d : HostResetDetail) : (s.postHostReset d).head = s.head := rfl
@[simp] theorem State.postHostReset_episode (d : HostResetDetail) : (s.postHostReset d).episode = s.episode := rfl
@[simp] theorem State.postHostReset_entries (d : HostResetDetail) : (s.postHostReset d).entries = s.entries := rfl
@[simp] theorem State.postHostReset_acceptOrder (d : HostResetDetail) : (s.postHostReset d).acceptOrder = s.acceptOrder := rfl
@[simp] theorem State.postHostReset_issueQ (d : HostResetDetail) : (s.postHostReset d).issueQ = s.issueQ := rfl
@[simp] theorem State.postHostReset_respQ (d : HostResetDetail) : (s.postHostReset d).respQ = s.respQ := rfl
@[simp] theorem State.postHostReset_blocked (d : HostResetDetail) : (s.postHostReset d).blocked = s.blocked := rfl
@[simp] theorem State.postHostReset_pool (d : HostResetDetail) : (s.postHostReset d).pool = s.pool := rfl
@[simp] theorem State.postHostReset_windows (d : HostResetDetail) : (s.postHostReset d).windows = s.windows := rfl
@[simp] theorem State.postHostReset_arb (d : HostResetDetail) : (s.postHostReset d).arb = s.arb := rfl
@[simp] theorem State.postHostReset_ticket (d : HostResetDetail) : (s.postHostReset d).ticket = s.ticket := rfl
@[simp] theorem State.postHostReset_contexts (d : HostResetDetail) : (s.postHostReset d).contexts = s.contexts := rfl
@[simp] theorem State.postHostReset_cells (d : HostResetDetail) : (s.postHostReset d).cells = s.cells := rfl
@[simp] theorem State.postHostReset_answerLists (d : HostResetDetail) : (s.postHostReset d).answerLists = s.answerLists := rfl
@[simp] theorem State.postHostReset_captureLists (d : HostResetDetail) : (s.postHostReset d).captureLists = s.captureLists := rfl
@[simp] theorem State.postHostReset_enabled (d : HostResetDetail) : (s.postHostReset d).enabled = s.enabled := rfl
@[simp] theorem State.postHostReset_link (d : HostResetDetail) : (s.postHostReset d).link = s.link := rfl
@[simp] theorem State.postHostReset_gate (d : HostResetDetail) : (s.postHostReset d).gate = s.gate := rfl
@[simp] theorem State.postHostReset_sdOut (d : HostResetDetail) : (s.postHostReset d).sdOut = s.sdOut := rfl
@[simp] theorem State.postHostReset_pending (d : HostResetDetail) : (s.postHostReset d).pending = s.pending := rfl

/-! ### answerWith -/

@[simp] theorem State.answerWith_now (n : Nat) (r : Reply) : (s.answerWith n r).now = s.now := rfl
@[simp] theorem State.answerWith_preset (n : Nat) (r : Reply) : (s.answerWith n r).preset = s.preset := rfl
@[simp] theorem State.answerWith_hreset (n : Nat) (r : Reply) : (s.answerWith n r).hreset = s.hreset := rfl
@[simp] theorem State.answerWith_head (n : Nat) (r : Reply) : (s.answerWith n r).head = s.head := rfl
@[simp] theorem State.answerWith_episode (n : Nat) (r : Reply) : (s.answerWith n r).episode = s.episode := rfl
@[simp] theorem State.answerWith_entries (n : Nat) (r : Reply) : (s.answerWith n r).entries = s.entries := rfl
@[simp] theorem State.answerWith_acceptOrder (n : Nat) (r : Reply) : (s.answerWith n r).acceptOrder = s.acceptOrder := rfl
@[simp] theorem State.answerWith_issueQ (n : Nat) (r : Reply) : (s.answerWith n r).issueQ = s.issueQ := rfl
@[simp] theorem State.answerWith_respQ (n : Nat) (r : Reply) : (s.answerWith n r).respQ = s.respQ := rfl
@[simp] theorem State.answerWith_blocked (n : Nat) (r : Reply) : (s.answerWith n r).blocked = s.blocked := rfl
@[simp] theorem State.answerWith_pool (n : Nat) (r : Reply) : (s.answerWith n r).pool = s.pool := rfl
@[simp] theorem State.answerWith_windows (n : Nat) (r : Reply) : (s.answerWith n r).windows = s.windows := rfl
@[simp] theorem State.answerWith_arb (n : Nat) (r : Reply) : (s.answerWith n r).arb = s.arb := rfl
@[simp] theorem State.answerWith_ticket (n : Nat) (r : Reply) : (s.answerWith n r).ticket = s.ticket := rfl
@[simp] theorem State.answerWith_contexts (n : Nat) (r : Reply) : (s.answerWith n r).contexts = s.contexts := rfl
@[simp] theorem State.answerWith_cells (n : Nat) (r : Reply) : (s.answerWith n r).cells = s.cells := rfl
@[simp] theorem State.answerWith_answerLists (n : Nat) (r : Reply) : (s.answerWith n r).answerLists = s.answerLists := rfl
@[simp] theorem State.answerWith_captureLists (n : Nat) (r : Reply) : (s.answerWith n r).captureLists = s.captureLists := rfl
@[simp] theorem State.answerWith_causes (n : Nat) (r : Reply) : (s.answerWith n r).causes = s.causes := rfl
@[simp] theorem State.answerWith_enabled (n : Nat) (r : Reply) : (s.answerWith n r).enabled = s.enabled := rfl
@[simp] theorem State.answerWith_gate (n : Nat) (r : Reply) : (s.answerWith n r).gate = s.gate := rfl
@[simp] theorem State.answerWith_sdOut (n : Nat) (r : Reply) : (s.answerWith n r).sdOut = s.sdOut := rfl
@[simp] theorem State.answerWith_pending (n : Nat) (r : Reply) : (s.answerWith n r).pending = s.pending := rfl

/-! ### refuseEntry -/

@[simp] theorem State.refuseEntry_now (i : TransitIndex) (e : Entry) (d : Decision) (src : RefusalSource) : (s.refuseEntry i e d src).now = s.now := rfl
@[simp] theorem State.refuseEntry_preset (i : TransitIndex) (e : Entry) (d : Decision) (src : RefusalSource) : (s.refuseEntry i e d src).preset = s.preset := rfl
@[simp] theorem State.refuseEntry_hreset (i : TransitIndex) (e : Entry) (d : Decision) (src : RefusalSource) : (s.refuseEntry i e d src).hreset = s.hreset := rfl
@[simp] theorem State.refuseEntry_head (i : TransitIndex) (e : Entry) (d : Decision) (src : RefusalSource) : (s.refuseEntry i e d src).head = s.head := rfl
@[simp] theorem State.refuseEntry_episode (i : TransitIndex) (e : Entry) (d : Decision) (src : RefusalSource) : (s.refuseEntry i e d src).episode = s.episode := rfl
@[simp] theorem State.refuseEntry_acceptOrder (i : TransitIndex) (e : Entry) (d : Decision) (src : RefusalSource) : (s.refuseEntry i e d src).acceptOrder = s.acceptOrder := rfl
@[simp] theorem State.refuseEntry_issueQ (i : TransitIndex) (e : Entry) (d : Decision) (src : RefusalSource) : (s.refuseEntry i e d src).issueQ = s.issueQ := rfl
@[simp] theorem State.refuseEntry_blocked (i : TransitIndex) (e : Entry) (d : Decision) (src : RefusalSource) : (s.refuseEntry i e d src).blocked = s.blocked := rfl
@[simp] theorem State.refuseEntry_pool (i : TransitIndex) (e : Entry) (d : Decision) (src : RefusalSource) : (s.refuseEntry i e d src).pool = s.pool := rfl
@[simp] theorem State.refuseEntry_windows (i : TransitIndex) (e : Entry) (d : Decision) (src : RefusalSource) : (s.refuseEntry i e d src).windows = s.windows := rfl
@[simp] theorem State.refuseEntry_arb (i : TransitIndex) (e : Entry) (d : Decision) (src : RefusalSource) : (s.refuseEntry i e d src).arb = s.arb := rfl
@[simp] theorem State.refuseEntry_ticket (i : TransitIndex) (e : Entry) (d : Decision) (src : RefusalSource) : (s.refuseEntry i e d src).ticket = s.ticket := rfl
@[simp] theorem State.refuseEntry_contexts (i : TransitIndex) (e : Entry) (d : Decision) (src : RefusalSource) : (s.refuseEntry i e d src).contexts = s.contexts := rfl
@[simp] theorem State.refuseEntry_cells (i : TransitIndex) (e : Entry) (d : Decision) (src : RefusalSource) : (s.refuseEntry i e d src).cells = s.cells := rfl
@[simp] theorem State.refuseEntry_answerLists (i : TransitIndex) (e : Entry) (d : Decision) (src : RefusalSource) : (s.refuseEntry i e d src).answerLists = s.answerLists := rfl
@[simp] theorem State.refuseEntry_captureLists (i : TransitIndex) (e : Entry) (d : Decision) (src : RefusalSource) : (s.refuseEntry i e d src).captureLists = s.captureLists := rfl
@[simp] theorem State.refuseEntry_enabled (i : TransitIndex) (e : Entry) (d : Decision) (src : RefusalSource) : (s.refuseEntry i e d src).enabled = s.enabled := rfl
@[simp] theorem State.refuseEntry_link (i : TransitIndex) (e : Entry) (d : Decision) (src : RefusalSource) : (s.refuseEntry i e d src).link = s.link := rfl
@[simp] theorem State.refuseEntry_gate (i : TransitIndex) (e : Entry) (d : Decision) (src : RefusalSource) : (s.refuseEntry i e d src).gate = s.gate := rfl
@[simp] theorem State.refuseEntry_sdOut (i : TransitIndex) (e : Entry) (d : Decision) (src : RefusalSource) : (s.refuseEntry i e d src).sdOut = s.sdOut := rfl
@[simp] theorem State.refuseEntry_pending (i : TransitIndex) (e : Entry) (d : Decision) (src : RefusalSource) : (s.refuseEntry i e d src).pending = s.pending := rfl

/-! ### enter -/

@[simp] theorem State.enter_now (i : TransitIndex) (e : Entry) : (s.enter i e).now = s.now := rfl
@[simp] theorem State.enter_preset (i : TransitIndex) (e : Entry) : (s.enter i e).preset = s.preset := rfl
@[simp] theorem State.enter_hreset (i : TransitIndex) (e : Entry) : (s.enter i e).hreset = s.hreset := rfl
@[simp] theorem State.enter_issueQ (i : TransitIndex) (e : Entry) : (s.enter i e).issueQ = s.issueQ := rfl
@[simp] theorem State.enter_respQ (i : TransitIndex) (e : Entry) : (s.enter i e).respQ = s.respQ := rfl
@[simp] theorem State.enter_blocked (i : TransitIndex) (e : Entry) : (s.enter i e).blocked = s.blocked := rfl
@[simp] theorem State.enter_pool (i : TransitIndex) (e : Entry) : (s.enter i e).pool = s.pool := rfl
@[simp] theorem State.enter_windows (i : TransitIndex) (e : Entry) : (s.enter i e).windows = s.windows := rfl
@[simp] theorem State.enter_arb (i : TransitIndex) (e : Entry) : (s.enter i e).arb = s.arb := rfl
@[simp] theorem State.enter_ticket (i : TransitIndex) (e : Entry) : (s.enter i e).ticket = s.ticket := rfl
@[simp] theorem State.enter_contexts (i : TransitIndex) (e : Entry) : (s.enter i e).contexts = s.contexts := rfl
@[simp] theorem State.enter_cells (i : TransitIndex) (e : Entry) : (s.enter i e).cells = s.cells := rfl
@[simp] theorem State.enter_answerLists (i : TransitIndex) (e : Entry) : (s.enter i e).answerLists = s.answerLists := rfl
@[simp] theorem State.enter_captureLists (i : TransitIndex) (e : Entry) : (s.enter i e).captureLists = s.captureLists := rfl
@[simp] theorem State.enter_causes (i : TransitIndex) (e : Entry) : (s.enter i e).causes = s.causes := rfl
@[simp] theorem State.enter_enabled (i : TransitIndex) (e : Entry) : (s.enter i e).enabled = s.enabled := rfl
@[simp] theorem State.enter_link (i : TransitIndex) (e : Entry) : (s.enter i e).link = s.link := rfl
@[simp] theorem State.enter_gate (i : TransitIndex) (e : Entry) : (s.enter i e).gate = s.gate := rfl
@[simp] theorem State.enter_sdOut (i : TransitIndex) (e : Entry) : (s.enter i e).sdOut = s.sdOut := rfl
@[simp] theorem State.enter_pending (i : TransitIndex) (e : Entry) : (s.enter i e).pending = s.pending := rfl

/-! ### setWindow -/

@[simp] theorem State.setWindow_now (i : WindowIndex) (w : Window) : (s.setWindow i w).now = s.now := rfl
@[simp] theorem State.setWindow_preset (i : WindowIndex) (w : Window) : (s.setWindow i w).preset = s.preset := rfl
@[simp] theorem State.setWindow_hreset (i : WindowIndex) (w : Window) : (s.setWindow i w).hreset = s.hreset := rfl
@[simp] theorem State.setWindow_head (i : WindowIndex) (w : Window) : (s.setWindow i w).head = s.head := rfl
@[simp] theorem State.setWindow_episode (i : WindowIndex) (w : Window) : (s.setWindow i w).episode = s.episode := rfl
@[simp] theorem State.setWindow_entries (i : WindowIndex) (w : Window) : (s.setWindow i w).entries = s.entries := rfl
@[simp] theorem State.setWindow_acceptOrder (i : WindowIndex) (w : Window) : (s.setWindow i w).acceptOrder = s.acceptOrder := rfl
@[simp] theorem State.setWindow_issueQ (i : WindowIndex) (w : Window) : (s.setWindow i w).issueQ = s.issueQ := rfl
@[simp] theorem State.setWindow_respQ (i : WindowIndex) (w : Window) : (s.setWindow i w).respQ = s.respQ := rfl
@[simp] theorem State.setWindow_blocked (i : WindowIndex) (w : Window) : (s.setWindow i w).blocked = s.blocked := rfl
@[simp] theorem State.setWindow_pool (i : WindowIndex) (w : Window) : (s.setWindow i w).pool = s.pool := rfl
@[simp] theorem State.setWindow_arb (i : WindowIndex) (w : Window) : (s.setWindow i w).arb = s.arb := rfl
@[simp] theorem State.setWindow_ticket (i : WindowIndex) (w : Window) : (s.setWindow i w).ticket = s.ticket := rfl
@[simp] theorem State.setWindow_contexts (i : WindowIndex) (w : Window) : (s.setWindow i w).contexts = s.contexts := rfl
@[simp] theorem State.setWindow_cells (i : WindowIndex) (w : Window) : (s.setWindow i w).cells = s.cells := rfl
@[simp] theorem State.setWindow_answerLists (i : WindowIndex) (w : Window) : (s.setWindow i w).answerLists = s.answerLists := rfl
@[simp] theorem State.setWindow_captureLists (i : WindowIndex) (w : Window) : (s.setWindow i w).captureLists = s.captureLists := rfl
@[simp] theorem State.setWindow_causes (i : WindowIndex) (w : Window) : (s.setWindow i w).causes = s.causes := rfl
@[simp] theorem State.setWindow_enabled (i : WindowIndex) (w : Window) : (s.setWindow i w).enabled = s.enabled := rfl
@[simp] theorem State.setWindow_link (i : WindowIndex) (w : Window) : (s.setWindow i w).link = s.link := rfl
@[simp] theorem State.setWindow_gate (i : WindowIndex) (w : Window) : (s.setWindow i w).gate = s.gate := rfl
@[simp] theorem State.setWindow_sdOut (i : WindowIndex) (w : Window) : (s.setWindow i w).sdOut = s.sdOut := rfl
@[simp] theorem State.setWindow_pending (i : WindowIndex) (w : Window) : (s.setWindow i w).pending = s.pending := rfl

/-! ### setAnswerList -/

@[simp] theorem State.setAnswerList_now (l : ListOrdinal) (a : AnswerList) : (s.setAnswerList l a).now = s.now := rfl
@[simp] theorem State.setAnswerList_preset (l : ListOrdinal) (a : AnswerList) : (s.setAnswerList l a).preset = s.preset := rfl
@[simp] theorem State.setAnswerList_hreset (l : ListOrdinal) (a : AnswerList) : (s.setAnswerList l a).hreset = s.hreset := rfl
@[simp] theorem State.setAnswerList_head (l : ListOrdinal) (a : AnswerList) : (s.setAnswerList l a).head = s.head := rfl
@[simp] theorem State.setAnswerList_episode (l : ListOrdinal) (a : AnswerList) : (s.setAnswerList l a).episode = s.episode := rfl
@[simp] theorem State.setAnswerList_entries (l : ListOrdinal) (a : AnswerList) : (s.setAnswerList l a).entries = s.entries := rfl
@[simp] theorem State.setAnswerList_acceptOrder (l : ListOrdinal) (a : AnswerList) : (s.setAnswerList l a).acceptOrder = s.acceptOrder := rfl
@[simp] theorem State.setAnswerList_issueQ (l : ListOrdinal) (a : AnswerList) : (s.setAnswerList l a).issueQ = s.issueQ := rfl
@[simp] theorem State.setAnswerList_respQ (l : ListOrdinal) (a : AnswerList) : (s.setAnswerList l a).respQ = s.respQ := rfl
@[simp] theorem State.setAnswerList_blocked (l : ListOrdinal) (a : AnswerList) : (s.setAnswerList l a).blocked = s.blocked := rfl
@[simp] theorem State.setAnswerList_pool (l : ListOrdinal) (a : AnswerList) : (s.setAnswerList l a).pool = s.pool := rfl
@[simp] theorem State.setAnswerList_windows (l : ListOrdinal) (a : AnswerList) : (s.setAnswerList l a).windows = s.windows := rfl
@[simp] theorem State.setAnswerList_arb (l : ListOrdinal) (a : AnswerList) : (s.setAnswerList l a).arb = s.arb := rfl
@[simp] theorem State.setAnswerList_ticket (l : ListOrdinal) (a : AnswerList) : (s.setAnswerList l a).ticket = s.ticket := rfl
@[simp] theorem State.setAnswerList_contexts (l : ListOrdinal) (a : AnswerList) : (s.setAnswerList l a).contexts = s.contexts := rfl
@[simp] theorem State.setAnswerList_cells (l : ListOrdinal) (a : AnswerList) : (s.setAnswerList l a).cells = s.cells := rfl
@[simp] theorem State.setAnswerList_captureLists (l : ListOrdinal) (a : AnswerList) : (s.setAnswerList l a).captureLists = s.captureLists := rfl
@[simp] theorem State.setAnswerList_causes (l : ListOrdinal) (a : AnswerList) : (s.setAnswerList l a).causes = s.causes := rfl
@[simp] theorem State.setAnswerList_enabled (l : ListOrdinal) (a : AnswerList) : (s.setAnswerList l a).enabled = s.enabled := rfl
@[simp] theorem State.setAnswerList_link (l : ListOrdinal) (a : AnswerList) : (s.setAnswerList l a).link = s.link := rfl
@[simp] theorem State.setAnswerList_gate (l : ListOrdinal) (a : AnswerList) : (s.setAnswerList l a).gate = s.gate := rfl
@[simp] theorem State.setAnswerList_sdOut (l : ListOrdinal) (a : AnswerList) : (s.setAnswerList l a).sdOut = s.sdOut := rfl
@[simp] theorem State.setAnswerList_pending (l : ListOrdinal) (a : AnswerList) : (s.setAnswerList l a).pending = s.pending := rfl

/-! ### setCaptureList -/

@[simp] theorem State.setCaptureList_now (l : ListOrdinal) (c : CaptureList) : (s.setCaptureList l c).now = s.now := rfl
@[simp] theorem State.setCaptureList_preset (l : ListOrdinal) (c : CaptureList) : (s.setCaptureList l c).preset = s.preset := rfl
@[simp] theorem State.setCaptureList_hreset (l : ListOrdinal) (c : CaptureList) : (s.setCaptureList l c).hreset = s.hreset := rfl
@[simp] theorem State.setCaptureList_head (l : ListOrdinal) (c : CaptureList) : (s.setCaptureList l c).head = s.head := rfl
@[simp] theorem State.setCaptureList_episode (l : ListOrdinal) (c : CaptureList) : (s.setCaptureList l c).episode = s.episode := rfl
@[simp] theorem State.setCaptureList_entries (l : ListOrdinal) (c : CaptureList) : (s.setCaptureList l c).entries = s.entries := rfl
@[simp] theorem State.setCaptureList_acceptOrder (l : ListOrdinal) (c : CaptureList) : (s.setCaptureList l c).acceptOrder = s.acceptOrder := rfl
@[simp] theorem State.setCaptureList_issueQ (l : ListOrdinal) (c : CaptureList) : (s.setCaptureList l c).issueQ = s.issueQ := rfl
@[simp] theorem State.setCaptureList_respQ (l : ListOrdinal) (c : CaptureList) : (s.setCaptureList l c).respQ = s.respQ := rfl
@[simp] theorem State.setCaptureList_blocked (l : ListOrdinal) (c : CaptureList) : (s.setCaptureList l c).blocked = s.blocked := rfl
@[simp] theorem State.setCaptureList_pool (l : ListOrdinal) (c : CaptureList) : (s.setCaptureList l c).pool = s.pool := rfl
@[simp] theorem State.setCaptureList_windows (l : ListOrdinal) (c : CaptureList) : (s.setCaptureList l c).windows = s.windows := rfl
@[simp] theorem State.setCaptureList_arb (l : ListOrdinal) (c : CaptureList) : (s.setCaptureList l c).arb = s.arb := rfl
@[simp] theorem State.setCaptureList_ticket (l : ListOrdinal) (c : CaptureList) : (s.setCaptureList l c).ticket = s.ticket := rfl
@[simp] theorem State.setCaptureList_contexts (l : ListOrdinal) (c : CaptureList) : (s.setCaptureList l c).contexts = s.contexts := rfl
@[simp] theorem State.setCaptureList_cells (l : ListOrdinal) (c : CaptureList) : (s.setCaptureList l c).cells = s.cells := rfl
@[simp] theorem State.setCaptureList_answerLists (l : ListOrdinal) (c : CaptureList) : (s.setCaptureList l c).answerLists = s.answerLists := rfl
@[simp] theorem State.setCaptureList_causes (l : ListOrdinal) (c : CaptureList) : (s.setCaptureList l c).causes = s.causes := rfl
@[simp] theorem State.setCaptureList_enabled (l : ListOrdinal) (c : CaptureList) : (s.setCaptureList l c).enabled = s.enabled := rfl
@[simp] theorem State.setCaptureList_link (l : ListOrdinal) (c : CaptureList) : (s.setCaptureList l c).link = s.link := rfl
@[simp] theorem State.setCaptureList_gate (l : ListOrdinal) (c : CaptureList) : (s.setCaptureList l c).gate = s.gate := rfl
@[simp] theorem State.setCaptureList_sdOut (l : ListOrdinal) (c : CaptureList) : (s.setCaptureList l c).sdOut = s.sdOut := rfl
@[simp] theorem State.setCaptureList_pending (l : ListOrdinal) (c : CaptureList) : (s.setCaptureList l c).pending = s.pending := rfl

/-! ### openContext -/

@[simp] theorem State.openContext_now (c : ContextIndex) (i : TransitIndex) (k : ServiceClass) : (s.openContext c i k).now = s.now := rfl
@[simp] theorem State.openContext_preset (c : ContextIndex) (i : TransitIndex) (k : ServiceClass) : (s.openContext c i k).preset = s.preset := rfl
@[simp] theorem State.openContext_hreset (c : ContextIndex) (i : TransitIndex) (k : ServiceClass) : (s.openContext c i k).hreset = s.hreset := rfl
@[simp] theorem State.openContext_head (c : ContextIndex) (i : TransitIndex) (k : ServiceClass) : (s.openContext c i k).head = s.head := rfl
@[simp] theorem State.openContext_episode (c : ContextIndex) (i : TransitIndex) (k : ServiceClass) : (s.openContext c i k).episode = s.episode := rfl
@[simp] theorem State.openContext_entries (c : ContextIndex) (i : TransitIndex) (k : ServiceClass) : (s.openContext c i k).entries = s.entries := rfl
@[simp] theorem State.openContext_acceptOrder (c : ContextIndex) (i : TransitIndex) (k : ServiceClass) : (s.openContext c i k).acceptOrder = s.acceptOrder := rfl
@[simp] theorem State.openContext_issueQ (c : ContextIndex) (i : TransitIndex) (k : ServiceClass) : (s.openContext c i k).issueQ = s.issueQ := rfl
@[simp] theorem State.openContext_respQ (c : ContextIndex) (i : TransitIndex) (k : ServiceClass) : (s.openContext c i k).respQ = s.respQ := rfl
@[simp] theorem State.openContext_blocked (c : ContextIndex) (i : TransitIndex) (k : ServiceClass) : (s.openContext c i k).blocked = s.blocked := rfl
@[simp] theorem State.openContext_windows (c : ContextIndex) (i : TransitIndex) (k : ServiceClass) : (s.openContext c i k).windows = s.windows := rfl
@[simp] theorem State.openContext_arb (c : ContextIndex) (i : TransitIndex) (k : ServiceClass) : (s.openContext c i k).arb = s.arb := rfl
@[simp] theorem State.openContext_cells (c : ContextIndex) (i : TransitIndex) (k : ServiceClass) : (s.openContext c i k).cells = s.cells := rfl
@[simp] theorem State.openContext_answerLists (c : ContextIndex) (i : TransitIndex) (k : ServiceClass) : (s.openContext c i k).answerLists = s.answerLists := rfl
@[simp] theorem State.openContext_captureLists (c : ContextIndex) (i : TransitIndex) (k : ServiceClass) : (s.openContext c i k).captureLists = s.captureLists := rfl
@[simp] theorem State.openContext_causes (c : ContextIndex) (i : TransitIndex) (k : ServiceClass) : (s.openContext c i k).causes = s.causes := rfl
@[simp] theorem State.openContext_enabled (c : ContextIndex) (i : TransitIndex) (k : ServiceClass) : (s.openContext c i k).enabled = s.enabled := rfl
@[simp] theorem State.openContext_link (c : ContextIndex) (i : TransitIndex) (k : ServiceClass) : (s.openContext c i k).link = s.link := rfl
@[simp] theorem State.openContext_gate (c : ContextIndex) (i : TransitIndex) (k : ServiceClass) : (s.openContext c i k).gate = s.gate := rfl
@[simp] theorem State.openContext_sdOut (c : ContextIndex) (i : TransitIndex) (k : ServiceClass) : (s.openContext c i k).sdOut = s.sdOut := rfl
@[simp] theorem State.openContext_pending (c : ContextIndex) (i : TransitIndex) (k : ServiceClass) : (s.openContext c i k).pending = s.pending := rfl

/-! ### rewrite -/

@[simp] theorem State.rewrite_now (i : TransitIndex) (e : Entry) (l : Lanes) (w : Word) : (s.rewrite i e l w).now = s.now := rfl
@[simp] theorem State.rewrite_preset (i : TransitIndex) (e : Entry) (l : Lanes) (w : Word) : (s.rewrite i e l w).preset = s.preset := rfl
@[simp] theorem State.rewrite_hreset (i : TransitIndex) (e : Entry) (l : Lanes) (w : Word) : (s.rewrite i e l w).hreset = s.hreset := rfl
@[simp] theorem State.rewrite_head (i : TransitIndex) (e : Entry) (l : Lanes) (w : Word) : (s.rewrite i e l w).head = s.head := rfl
@[simp] theorem State.rewrite_episode (i : TransitIndex) (e : Entry) (l : Lanes) (w : Word) : (s.rewrite i e l w).episode = s.episode := rfl
@[simp] theorem State.rewrite_acceptOrder (i : TransitIndex) (e : Entry) (l : Lanes) (w : Word) : (s.rewrite i e l w).acceptOrder = s.acceptOrder := rfl
@[simp] theorem State.rewrite_issueQ (i : TransitIndex) (e : Entry) (l : Lanes) (w : Word) : (s.rewrite i e l w).issueQ = s.issueQ := rfl
@[simp] theorem State.rewrite_respQ (i : TransitIndex) (e : Entry) (l : Lanes) (w : Word) : (s.rewrite i e l w).respQ = s.respQ := rfl
@[simp] theorem State.rewrite_blocked (i : TransitIndex) (e : Entry) (l : Lanes) (w : Word) : (s.rewrite i e l w).blocked = s.blocked := rfl
@[simp] theorem State.rewrite_pool (i : TransitIndex) (e : Entry) (l : Lanes) (w : Word) : (s.rewrite i e l w).pool = s.pool := rfl
@[simp] theorem State.rewrite_windows (i : TransitIndex) (e : Entry) (l : Lanes) (w : Word) : (s.rewrite i e l w).windows = s.windows := rfl
@[simp] theorem State.rewrite_arb (i : TransitIndex) (e : Entry) (l : Lanes) (w : Word) : (s.rewrite i e l w).arb = s.arb := rfl
@[simp] theorem State.rewrite_ticket (i : TransitIndex) (e : Entry) (l : Lanes) (w : Word) : (s.rewrite i e l w).ticket = s.ticket := rfl
@[simp] theorem State.rewrite_contexts (i : TransitIndex) (e : Entry) (l : Lanes) (w : Word) : (s.rewrite i e l w).contexts = s.contexts := rfl
@[simp] theorem State.rewrite_cells (i : TransitIndex) (e : Entry) (l : Lanes) (w : Word) : (s.rewrite i e l w).cells = s.cells := rfl
@[simp] theorem State.rewrite_answerLists (i : TransitIndex) (e : Entry) (l : Lanes) (w : Word) : (s.rewrite i e l w).answerLists = s.answerLists := rfl
@[simp] theorem State.rewrite_captureLists (i : TransitIndex) (e : Entry) (l : Lanes) (w : Word) : (s.rewrite i e l w).captureLists = s.captureLists := rfl
@[simp] theorem State.rewrite_causes (i : TransitIndex) (e : Entry) (l : Lanes) (w : Word) : (s.rewrite i e l w).causes = s.causes := rfl
@[simp] theorem State.rewrite_enabled (i : TransitIndex) (e : Entry) (l : Lanes) (w : Word) : (s.rewrite i e l w).enabled = s.enabled := rfl
@[simp] theorem State.rewrite_link (i : TransitIndex) (e : Entry) (l : Lanes) (w : Word) : (s.rewrite i e l w).link = s.link := rfl
@[simp] theorem State.rewrite_gate (i : TransitIndex) (e : Entry) (l : Lanes) (w : Word) : (s.rewrite i e l w).gate = s.gate := rfl
@[simp] theorem State.rewrite_sdOut (i : TransitIndex) (e : Entry) (l : Lanes) (w : Word) : (s.rewrite i e l w).sdOut = s.sdOut := rfl
@[simp] theorem State.rewrite_pending (i : TransitIndex) (e : Entry) (l : Lanes) (w : Word) : (s.rewrite i e l w).pending = s.pending := rfl

/-! ### tick -/

@[simp] theorem State.tick_preset : (s.tick).preset = s.preset := rfl
@[simp] theorem State.tick_hreset : (s.tick).hreset = s.hreset := rfl
@[simp] theorem State.tick_head : (s.tick).head = s.head := rfl
@[simp] theorem State.tick_episode : (s.tick).episode = s.episode := rfl
@[simp] theorem State.tick_entries : (s.tick).entries = s.entries := rfl
@[simp] theorem State.tick_acceptOrder : (s.tick).acceptOrder = s.acceptOrder := rfl
@[simp] theorem State.tick_issueQ : (s.tick).issueQ = s.issueQ := rfl
@[simp] theorem State.tick_respQ : (s.tick).respQ = s.respQ := rfl
@[simp] theorem State.tick_blocked : (s.tick).blocked = s.blocked := rfl
@[simp] theorem State.tick_pool : (s.tick).pool = s.pool := rfl
@[simp] theorem State.tick_windows : (s.tick).windows = s.windows := rfl
@[simp] theorem State.tick_arb : (s.tick).arb = s.arb := rfl
@[simp] theorem State.tick_ticket : (s.tick).ticket = s.ticket := rfl
@[simp] theorem State.tick_contexts : (s.tick).contexts = s.contexts := rfl
@[simp] theorem State.tick_cells : (s.tick).cells = s.cells := rfl
@[simp] theorem State.tick_answerLists : (s.tick).answerLists = s.answerLists := rfl
@[simp] theorem State.tick_captureLists : (s.tick).captureLists = s.captureLists := rfl
@[simp] theorem State.tick_causes : (s.tick).causes = s.causes := rfl
@[simp] theorem State.tick_enabled : (s.tick).enabled = s.enabled := rfl
@[simp] theorem State.tick_link : (s.tick).link = s.link := rfl
@[simp] theorem State.tick_gate : (s.tick).gate = s.gate := rfl
@[simp] theorem State.tick_sdOut : (s.tick).sdOut = s.sdOut := rfl
@[simp] theorem State.tick_pending : (s.tick).pending = s.pending := rfl

/-! ### What the updates write -/

@[simp] theorem State.setEntry_entries (i : TransitIndex) (e : Option Entry) :
    (s.setEntry i e).entries = s.entries.set i e := rfl
@[simp] theorem State.setRoute_entries (i : TransitIndex) (r : Route) :
    (s.setRoute i r).entries = s.entries.set i ((s.entry i).map fun e => { e with route := r }) := rfl
@[simp] theorem State.forward_entries (i : TransitIndex) : (s.forward i).entries = (s.setRoute i .issueWait).entries := rfl
@[simp] theorem State.forward_issueQ (i : TransitIndex) : (s.forward i).issueQ = s.issueQ ++ [i] := rfl
@[simp] theorem State.complete_entries (i : TransitIndex) (r : Response) :
    (s.complete i r).entries = (s.setRoute i (.done r)).entries := rfl
@[simp] theorem State.complete_respQ (i : TransitIndex) (r : Response) : (s.complete i r).respQ = s.respQ ++ [i] := rfl
@[simp] theorem State.hold_entries (i : TransitIndex) (how : HowHeld) (code : Nat) :
    (s.hold i how code).entries = (s.setRoute i .held).entries := rfl
@[simp] theorem State.hold_pool (i : TransitIndex) (how : HowHeld) (code : Nat) :
    (s.hold i how code).pool = s.pool ++
      [{ entry := i, heldSince := s.now, deadline := deadlineFrom s.now code, how := how, context := none }] := rfl
@[simp] theorem State.dropSlot_pool (i : TransitIndex) :
    (s.dropSlot i).pool = s.pool.filter fun sl => decide (sl.entry ≠ i) := rfl
@[simp] theorem State.updateSlot_pool (i : TransitIndex) (f : Slot → Slot) :
    (s.updateSlot i f).pool = s.pool.map fun sl => if sl.entry = i then f sl else sl := rfl
@[simp] theorem State.setContext_contexts (c : ContextIndex) (o : Option OpenContext) :
    (s.setContext c o).contexts = s.contexts.set c o := rfl
@[simp] theorem State.answerWith_link (n : Nat) (r : Reply) :
    (s.answerWith n r).link = .responding n (responseFrame r) 0 := rfl
@[simp] theorem State.enter_entries (i : TransitIndex) (e : Entry) :
    (s.enter i e).entries = s.entries.set i (some e) := rfl
@[simp] theorem State.enter_acceptOrder (i : TransitIndex) (e : Entry) :
    (s.enter i e).acceptOrder = s.acceptOrder ++ [i] := rfl
@[simp] theorem State.enter_head (i : TransitIndex) (e : Entry) : (s.enter i e).head = none := rfl
@[simp] theorem State.enter_episode (i : TransitIndex) (e : Entry) : (s.enter i e).episode = false := rfl
@[simp] theorem State.setWindow_windows (i : WindowIndex) (w : Window) :
    (s.setWindow i w).windows = s.windows.set i w := rfl
@[simp] theorem State.setAnswerList_answerLists (l : ListOrdinal) (a : AnswerList) :
    (s.setAnswerList l a).answerLists = s.answerLists.set l a := rfl
@[simp] theorem State.setCaptureList_captureLists (l : ListOrdinal) (c : CaptureList) :
    (s.setCaptureList l c).captureLists = s.captureLists.set l c := rfl
@[simp] theorem State.openContext_ticket (c : ContextIndex) (i : TransitIndex) (k : ServiceClass) :
    (s.openContext c i k).ticket = s.ticket + 1 := rfl
@[simp] theorem State.openContext_contexts (c : ContextIndex) (i : TransitIndex) (k : ServiceClass) :
    (s.openContext c i k).contexts = s.contexts.set c (some { ticket := s.ticket + 1, entry := i, cls := k }) := rfl
@[simp] theorem State.openContext_pool (c : ContextIndex) (i : TransitIndex) (k : ServiceClass) :
    (s.openContext c i k).pool = s.pool.map fun sl => if sl.entry = i then { sl with context := some c } else sl := rfl
@[simp] theorem State.refuseEntry_entries (i : TransitIndex) (e : Entry) (d : Decision) (src : RefusalSource) :
    (s.refuseEntry i e d src).entries = (s.complete i .error).entries := rfl
@[simp] theorem State.refuseEntry_respQ (i : TransitIndex) (e : Entry) (d : Decision) (src : RefusalSource) :
    (s.refuseEntry i e d src).respQ = s.respQ ++ [i] := rfl
@[simp] theorem State.refuseEntry_causes (i : TransitIndex) (e : Entry) (d : Decision) (src : RefusalSource) :
    (s.refuseEntry i e d src).causes =
      { s.causes with refusal := post s.causes.refusal (refusalDetail e d src) } := rfl

end Sys2Proof.Machine
end

