-- ==== Sys2Proof/Laws/Service.lean ====
section
/-! SUPPORT. What each shared operation of the transit table can do, said once: the entry found at an index after an update,
the results of carrying out a decision (R8), and what the walk (R69), the close of a context (R90), a departure (R52) and the
end of an event (R10, R168) leave unchanged. -/

namespace Sys2Proof.Machine

-- One proof at a time: proofs in parallel wait for one another on threads of their own, each with its stack.
set_option Elab.async false

variable (s : State)

/-! ### The entry at an index -/

/-- The entry at an index depends on the transit table alone. -/
theorem State.entry_congr {t u : State} (h : t.entries = u.entries) (i : TransitIndex) : t.entry i = u.entry i := by
  simp only [State.entry, h]

theorem State.entry_setEntry (i j : TransitIndex) (e : Option Entry) :
    (s.setEntry i e).entry j = if i = j then e else s.entry j := by
  simp only [State.entry, State.setEntry_entries, Fin.getElem_fin, Vector.getElem_set, Fin.ext_iff]

@[simp] theorem State.entry_setEntry_self (i : TransitIndex) (e : Option Entry) : (s.setEntry i e).entry i = e := by
  simp [State.entry_setEntry]

theorem State.entry_setEntry_ne {i j : TransitIndex} (h : i ≠ j) (e : Option Entry) :
    (s.setEntry i e).entry j = s.entry j := by
  simp [State.entry_setEntry, h]

theorem State.entry_setRoute (i j : TransitIndex) (r : Route) :
    (s.setRoute i r).entry j =
      if i = j then (s.entry i).map (fun e => { e with route := r }) else s.entry j := by
  simp only [State.setRoute, State.entry_setEntry]

theorem State.entry_forward (i j : TransitIndex) : (s.forward i).entry j = (s.setRoute i .issueWait).entry j := rfl

theorem State.entry_complete (i j : TransitIndex) (r : Response) :
    (s.complete i r).entry j = (s.setRoute i (.done r)).entry j := rfl

theorem State.entry_hold (i j : TransitIndex) (how : HowHeld) (code : Nat) :
    (s.hold i how code).entry j = (s.setRoute i .held).entry j := rfl

theorem State.entry_refuseEntry (i j : TransitIndex) (e : Entry) (d : Decision) (src : RefusalSource) :
    (s.refuseEntry i e d src).entry j = (s.setRoute i (.done .error)).entry j := rfl

/-! ### Carrying out a decision -/

/-- A READ answered from an armed list: the list advances and the entry is DONE with its next word (R130). -/
def State.answered (s : State) (i : TransitIndex) (l : ListOrdinal) : State :=
  ({ s with answerLists := s.answerLists.set l s.answerLists[l].advance }).complete i
    (.okWord (readCell s.cells s.answerLists[l].position).data)

/-- A WRITE recorded in an armed list: the record is written, the list advances and the entry is DONE (R131). -/
def State.captured (s : State) (i : TransitIndex) (l : ListOrdinal) (c : Cell) : State :=
  ({ s with
    cells := writeCell s.cells s.captureLists[l].nextCell c
    captureLists := s.captureLists.set l s.captureLists[l].advance }).complete i .ok

/-- Everything that carrying out a decision can do (R8, R133). -/
theorem State.carryOut_cases (i : TransitIndex) :
    (s.carryOut i = s ∧ (s.entry i).bind Entry.decision = none) ∨
    s.carryOut i = s.forward i ∨
    (∃ how code, s.carryOut i = s.hold i how code) ∨
    (∃ e d src, s.entry i = some e ∧ e.decision = some d ∧ s.carryOut i = s.refuseEntry i e d src) ∨
    (∃ l : ListOrdinal, s.answerLists[l].state = .armed ∧ s.carryOut i =
      if s.answerLists[l].advance.state = .exhausted then (s.answered i l).postAnswerOut l else s.answered i l) ∨
    (∃ (l : ListOrdinal) (c : Cell), s.captureLists[l].state = .armed ∧ s.carryOut i =
      if s.captureLists[l].advance.state = .full then (s.captured i l c).postCaptureFull l else s.captured i l c) := by
  unfold State.carryOut
  split
  · next h => exact .inl ⟨rfl, by simp [h]⟩
  · next e he =>
    split
    · next hd => exact .inl ⟨rfl, by simp [he, hd]⟩
    · next d hd =>
      have hx : ∀ x, s.exhaust i e d x = s.forward i ∨ (∃ how code, s.exhaust i e d x = s.hold i how code) ∨
          ∃ src, s.exhaust i e d x = s.refuseEntry i e d src := by
        intro x
        cases x
        · exact .inl rfl
        · exact .inr (.inl ⟨_, _, rfl⟩)
        · exact .inr (.inr ⟨_, rfl⟩)
      have hx' : ∀ x, (s.exhaust i e d x = s ∧ (s.entry i).bind Entry.decision = none) ∨
          s.exhaust i e d x = s.forward i ∨ (∃ how code, s.exhaust i e d x = s.hold i how code) ∨
          (∃ e' d' src, s.entry i = some e' ∧ e'.decision = some d' ∧ s.exhaust i e d x = s.refuseEntry i e' d' src) ∨
          (∃ l : ListOrdinal, s.answerLists[l].state = .armed ∧ s.exhaust i e d x =
            if s.answerLists[l].advance.state = .exhausted then (s.answered i l).postAnswerOut l
            else s.answered i l) ∨
          (∃ (l : ListOrdinal) (c : Cell), s.captureLists[l].state = .armed ∧ s.exhaust i e d x =
            if s.captureLists[l].advance.state = .full then (s.captured i l c).postCaptureFull l
            else s.captured i l c) := by
        intro x
        rcases hx x with h | h | ⟨src, h⟩
        · exact .inr (.inl h)
        · exact .inr (.inr (.inl h))
        · exact .inr (.inr (.inr (.inl ⟨e, d, src, he, hd, h⟩)))
      split
      · exact .inr (.inl rfl)
      · exact .inr (.inr (.inr (.inl ⟨e, d, .window, he, hd, rfl⟩)))
      · exact .inr (.inr (.inl ⟨_, _, rfl⟩))
      · unfold State.serve
        split
        · split
          · exact .inr (.inl rfl)
          · next l _ =>
            simp only [State.serveRead]
            split
            · next ha => exact .inr (.inr (.inr (.inr (.inl ⟨l, ha, rfl⟩))))
            · exact hx' _
            · exact hx' _
        · next data _ =>
          split
          · exact .inr (.inl rfl)
          · next l _ =>
            simp only [State.serveWrite]
            split
            · next hc => exact .inr (.inr (.inr (.inr (.inr ⟨l, captureRecord e data, hc, rfl⟩))))
            · exact hx' _
            · exact hx' _

@[simp] theorem State.carryOut_now (i : TransitIndex) : (s.carryOut i).now = s.now := by
  rcases s.carryOut_cases i with ⟨h, -⟩ | h | ⟨_, _, h⟩ | ⟨_, _, _, -, -, h⟩ | ⟨_, -, h⟩ | ⟨_, _, -, h⟩ <;> rw [h]
  · rfl
  · rfl
  · rfl
  · split <;> rfl
  · split <;> rfl

@[simp] theorem State.carryOut_preset (i : TransitIndex) : (s.carryOut i).preset = s.preset := by
  rcases s.carryOut_cases i with ⟨h, -⟩ | h | ⟨_, _, h⟩ | ⟨_, _, _, -, -, h⟩ | ⟨_, -, h⟩ | ⟨_, _, -, h⟩ <;> rw [h]
  · rfl
  · rfl
  · rfl
  · split <;> rfl
  · split <;> rfl

@[simp] theorem State.carryOut_hreset (i : TransitIndex) : (s.carryOut i).hreset = s.hreset := by
  rcases s.carryOut_cases i with ⟨h, -⟩ | h | ⟨_, _, h⟩ | ⟨_, _, _, -, -, h⟩ | ⟨_, -, h⟩ | ⟨_, _, -, h⟩ <;> rw [h]
  · rfl
  · rfl
  · rfl
  · split <;> rfl
  · split <;> rfl

@[simp] theorem State.carryOut_head (i : TransitIndex) : (s.carryOut i).head = s.head := by
  rcases s.carryOut_cases i with ⟨h, -⟩ | h | ⟨_, _, h⟩ | ⟨_, _, _, -, -, h⟩ | ⟨_, -, h⟩ | ⟨_, _, -, h⟩ <;> rw [h]
  · rfl
  · rfl
  · rfl
  · split <;> rfl
  · split <;> rfl

@[simp] theorem State.carryOut_episode (i : TransitIndex) : (s.carryOut i).episode = s.episode := by
  rcases s.carryOut_cases i with ⟨h, -⟩ | h | ⟨_, _, h⟩ | ⟨_, _, _, -, -, h⟩ | ⟨_, -, h⟩ | ⟨_, _, -, h⟩ <;> rw [h]
  · rfl
  · rfl
  · rfl
  · split <;> rfl
  · split <;> rfl

@[simp] theorem State.carryOut_acceptOrder (i : TransitIndex) : (s.carryOut i).acceptOrder = s.acceptOrder := by
  rcases s.carryOut_cases i with ⟨h, -⟩ | h | ⟨_, _, h⟩ | ⟨_, _, _, -, -, h⟩ | ⟨_, -, h⟩ | ⟨_, _, -, h⟩ <;> rw [h]
  · rfl
  · rfl
  · rfl
  · split <;> rfl
  · split <;> rfl

@[simp] theorem State.carryOut_blocked (i : TransitIndex) : (s.carryOut i).blocked = s.blocked := by
  rcases s.carryOut_cases i with ⟨h, -⟩ | h | ⟨_, _, h⟩ | ⟨_, _, _, -, -, h⟩ | ⟨_, -, h⟩ | ⟨_, _, -, h⟩ <;> rw [h]
  · rfl
  · rfl
  · rfl
  · split <;> rfl
  · split <;> rfl

@[simp] theorem State.carryOut_windows (i : TransitIndex) : (s.carryOut i).windows = s.windows := by
  rcases s.carryOut_cases i with ⟨h, -⟩ | h | ⟨_, _, h⟩ | ⟨_, _, _, -, -, h⟩ | ⟨_, -, h⟩ | ⟨_, _, -, h⟩ <;> rw [h]
  · rfl
  · rfl
  · rfl
  · split <;> rfl
  · split <;> rfl

@[simp] theorem State.carryOut_arb (i : TransitIndex) : (s.carryOut i).arb = s.arb := by
  rcases s.carryOut_cases i with ⟨h, -⟩ | h | ⟨_, _, h⟩ | ⟨_, _, _, -, -, h⟩ | ⟨_, -, h⟩ | ⟨_, _, -, h⟩ <;> rw [h]
  · rfl
  · rfl
  · rfl
  · split <;> rfl
  · split <;> rfl

@[simp] theorem State.carryOut_ticket (i : TransitIndex) : (s.carryOut i).ticket = s.ticket := by
  rcases s.carryOut_cases i with ⟨h, -⟩ | h | ⟨_, _, h⟩ | ⟨_, _, _, -, -, h⟩ | ⟨_, -, h⟩ | ⟨_, _, -, h⟩ <;> rw [h]
  · rfl
  · rfl
  · rfl
  · split <;> rfl
  · split <;> rfl

@[simp] theorem State.carryOut_contexts (i : TransitIndex) : (s.carryOut i).contexts = s.contexts := by
  rcases s.carryOut_cases i with ⟨h, -⟩ | h | ⟨_, _, h⟩ | ⟨_, _, _, -, -, h⟩ | ⟨_, -, h⟩ | ⟨_, _, -, h⟩ <;> rw [h]
  · rfl
  · rfl
  · rfl
  · split <;> rfl
  · split <;> rfl

@[simp] theorem State.carryOut_enabled (i : TransitIndex) : (s.carryOut i).enabled = s.enabled := by
  rcases s.carryOut_cases i with ⟨h, -⟩ | h | ⟨_, _, h⟩ | ⟨_, _, _, -, -, h⟩ | ⟨_, -, h⟩ | ⟨_, _, -, h⟩ <;> rw [h]
  · rfl
  · rfl
  · rfl
  · split <;> rfl
  · split <;> rfl

@[simp] theorem State.carryOut_link (i : TransitIndex) : (s.carryOut i).link = s.link := by
  rcases s.carryOut_cases i with ⟨h, -⟩ | h | ⟨_, _, h⟩ | ⟨_, _, _, -, -, h⟩ | ⟨_, -, h⟩ | ⟨_, _, -, h⟩ <;> rw [h]
  · rfl
  · rfl
  · rfl
  · split <;> rfl
  · split <;> rfl

@[simp] theorem State.carryOut_gate (i : TransitIndex) : (s.carryOut i).gate = s.gate := by
  rcases s.carryOut_cases i with ⟨h, -⟩ | h | ⟨_, _, h⟩ | ⟨_, _, _, -, -, h⟩ | ⟨_, -, h⟩ | ⟨_, _, -, h⟩ <;> rw [h]
  · rfl
  · rfl
  · rfl
  · split <;> rfl
  · split <;> rfl

@[simp] theorem State.carryOut_sdOut (i : TransitIndex) : (s.carryOut i).sdOut = s.sdOut := by
  rcases s.carryOut_cases i with ⟨h, -⟩ | h | ⟨_, _, h⟩ | ⟨_, _, _, -, -, h⟩ | ⟨_, -, h⟩ | ⟨_, _, -, h⟩ <;> rw [h]
  · rfl
  · rfl
  · rfl
  · split <;> rfl
  · split <;> rfl

@[simp] theorem State.carryOut_pending (i : TransitIndex) : (s.carryOut i).pending = s.pending := by
  rcases s.carryOut_cases i with ⟨h, -⟩ | h | ⟨_, _, h⟩ | ⟨_, _, _, -, -, h⟩ | ⟨_, -, h⟩ | ⟨_, _, -, h⟩ <;> rw [h]
  · rfl
  · rfl
  · rfl
  · split <;> rfl
  · split <;> rfl

/-- Carrying out a decision touches no transit entry but the one named. -/
theorem State.carryOut_entry_ne {i j : TransitIndex} (hij : i ≠ j) : (s.carryOut i).entry j = s.entry j := by
  have set_ne : ∀ (t : State) (r : Route), t.entries = s.entries → (t.setRoute i r).entry j = s.entry j := by
    intro t r ht
    rw [State.entry_setRoute, if_neg hij, State.entry_congr ht]
  rcases s.carryOut_cases i with ⟨h, -⟩ | h | ⟨_, _, h⟩ | ⟨_, _, _, -, -, h⟩ | ⟨_, -, h⟩ | ⟨_, _, -, h⟩ <;> rw [h]
  · exact set_ne s _ rfl
  · exact set_ne s _ rfl
  · exact set_ne s _ rfl
  · split <;> exact set_ne _ _ rfl
  · split <;> exact set_ne _ _ rfl

/-- Carrying out a decision changes the route state of the entry named and nothing else of it. -/
theorem State.carryOut_entry_self (i : TransitIndex) :
    (s.carryOut i).entry i = s.entry i ∨
      ∃ r, (s.carryOut i).entry i = (s.entry i).map fun e => { e with route := r } := by
  have set_self : ∀ (t : State) (r : Route), t.entries = s.entries →
      (t.setRoute i r).entry i = (s.entry i).map fun e => { e with route := r } := by
    intro t r ht
    rw [State.entry_setRoute, if_pos rfl, State.entry_congr ht]
  rcases s.carryOut_cases i with ⟨h, -⟩ | h | ⟨_, _, h⟩ | ⟨_, _, _, -, -, h⟩ | ⟨_, -, h⟩ | ⟨_, _, -, h⟩ <;> rw [h]
  · exact .inl rfl
  · exact .inr ⟨_, set_self s _ rfl⟩
  · exact .inr ⟨_, set_self s _ rfl⟩
  · exact .inr ⟨_, set_self s _ rfl⟩
  · split <;> exact .inr ⟨_, set_self _ _ rfl⟩
  · split <;> exact .inr ⟨_, set_self _ _ rfl⟩

/-! ### The walk -/

/-- One entry of the walk: it leaves the blocked list and its decision is carried out (R69). -/
def State.walkOne (s : State) (i : TransitIndex) : State :=
  ({ s with blocked := s.blocked.filter fun j => decide (j ≠ i) }).carryOut i

theorem State.walk_nil : s.walk [] = s := rfl

theorem State.walk_cons (i : TransitIndex) (rest : List TransitIndex) :
    s.walk (i :: rest) = if (s.walkOne i).routeIs i .held then s.walkOne i else (s.walkOne i).walk rest := rfl

/-- Whatever each entry of the walk keeps, the walk keeps. -/
theorem State.walk_induction {P : State → Prop} (hone : ∀ t i, P t → P (t.walkOne i)) :
    ∀ (chain : List TransitIndex) (s : State), P s → P (s.walk chain)
  | [], _, h => h
  | i :: rest, s, h => by
    rw [State.walk_cons]
    split
    · exact hone s i h
    · exact State.walk_induction hone rest _ (hone s i h)

/-- Everything the walk can do: it carries out the entries of its chain one after another up to some place, and it stops
before the end only behind an entry that has just become HELD (R69). -/
theorem State.walk_cases (chain : List TransitIndex) :
    ∃ examined behind, chain = examined ++ behind ∧ s.walk chain = examined.foldl State.walkOne s ∧
      (behind = [] ∨ ∃ before i, examined = before ++ [i] ∧ (s.walk chain).routeIs i .held = true) := by
  induction chain generalizing s with
  | nil => exact ⟨[], [], rfl, rfl, .inl rfl⟩
  | cons i rest ih =>
    rw [State.walk_cons]
    by_cases h : (s.walkOne i).routeIs i .held = true
    · rw [if_pos h]
      exact ⟨[i], rest, rfl, rfl, .inr ⟨[], i, rfl, h⟩⟩
    · rw [if_neg h]
      obtain ⟨examined, behind, hc, hw, hs⟩ := ih (s.walkOne i)
      refine ⟨i :: examined, behind, by rw [hc]; rfl, hw, ?_⟩
      rcases hs with hs | ⟨before, j, rfl, hj⟩
      · exact .inl hs
      · exact .inr ⟨i :: before, j, rfl, hj⟩

@[simp] theorem State.walk_now (chain : List TransitIndex) : (s.walk chain).now = s.now :=
  State.walk_induction (P := fun t => t.now = s.now)
    (fun _ i h => (State.carryOut_now _ i).trans h) chain s rfl

@[simp] theorem State.walk_preset (chain : List TransitIndex) : (s.walk chain).preset = s.preset :=
  State.walk_induction (P := fun t => t.preset = s.preset)
    (fun _ i h => (State.carryOut_preset _ i).trans h) chain s rfl

@[simp] theorem State.walk_hreset (chain : List TransitIndex) : (s.walk chain).hreset = s.hreset :=
  State.walk_induction (P := fun t => t.hreset = s.hreset)
    (fun _ i h => (State.carryOut_hreset _ i).trans h) chain s rfl

@[simp] theorem State.walk_head (chain : List TransitIndex) : (s.walk chain).head = s.head :=
  State.walk_induction (P := fun t => t.head = s.head)
    (fun _ i h => (State.carryOut_head _ i).trans h) chain s rfl

@[simp] theorem State.walk_episode (chain : List TransitIndex) : (s.walk chain).episode = s.episode :=
  State.walk_induction (P := fun t => t.episode = s.episode)
    (fun _ i h => (State.carryOut_episode _ i).trans h) chain s rfl

@[simp] theorem State.walk_acceptOrder (chain : List TransitIndex) : (s.walk chain).acceptOrder = s.acceptOrder :=
  State.walk_induction (P := fun t => t.acceptOrder = s.acceptOrder)
    (fun _ i h => (State.carryOut_acceptOrder _ i).trans h) chain s rfl

@[simp] theorem State.walk_windows (chain : List TransitIndex) : (s.walk chain).windows = s.windows :=
  State.walk_induction (P := fun t => t.windows = s.windows)
    (fun _ i h => (State.carryOut_windows _ i).trans h) chain s rfl

@[simp] theorem State.walk_arb (chain : List TransitIndex) : (s.walk chain).arb = s.arb :=
  State.walk_induction (P := fun t => t.arb = s.arb)
    (fun _ i h => (State.carryOut_arb _ i).trans h) chain s rfl

@[simp] theorem State.walk_ticket (chain : List TransitIndex) : (s.walk chain).ticket = s.ticket :=
  State.walk_induction (P := fun t => t.ticket = s.ticket)
    (fun _ i h => (State.carryOut_ticket _ i).trans h) chain s rfl

@[simp] theorem State.walk_contexts (chain : List TransitIndex) : (s.walk chain).contexts = s.contexts :=
  State.walk_induction (P := fun t => t.contexts = s.contexts)
    (fun _ i h => (State.carryOut_contexts _ i).trans h) chain s rfl

@[simp] theorem State.walk_enabled (chain : List TransitIndex) : (s.walk chain).enabled = s.enabled :=
  State.walk_induction (P := fun t => t.enabled = s.enabled)
    (fun _ i h => (State.carryOut_enabled _ i).trans h) chain s rfl

@[simp] theorem State.walk_link (chain : List TransitIndex) : (s.walk chain).link = s.link :=
  State.walk_induction (P := fun t => t.link = s.link)
    (fun _ i h => (State.carryOut_link _ i).trans h) chain s rfl

@[simp] theorem State.walk_gate (chain : List TransitIndex) : (s.walk chain).gate = s.gate :=
  State.walk_induction (P := fun t => t.gate = s.gate)
    (fun _ i h => (State.carryOut_gate _ i).trans h) chain s rfl

@[simp] theorem State.walk_sdOut (chain : List TransitIndex) : (s.walk chain).sdOut = s.sdOut :=
  State.walk_induction (P := fun t => t.sdOut = s.sdOut)
    (fun _ i h => (State.carryOut_sdOut _ i).trans h) chain s rfl

@[simp] theorem State.walk_pending (chain : List TransitIndex) : (s.walk chain).pending = s.pending :=
  State.walk_induction (P := fun t => t.pending = s.pending)
    (fun _ i h => (State.carryOut_pending _ i).trans h) chain s rfl

/-- The walk touches no transit entry outside the chain it walks. -/
theorem State.walk_entry_ne {j : TransitIndex} :
    ∀ (chain : List TransitIndex) (s : State), j ∉ chain → (s.walk chain).entry j = s.entry j
  | [], _, _ => rfl
  | i :: rest, s, h => by
    have hij : i ≠ j := fun e => h (e ▸ List.mem_cons_self)
    have hone : (s.walkOne i).entry j = s.entry j := State.carryOut_entry_ne _ hij
    rw [State.walk_cons]
    split
    · exact hone
    · rw [State.walk_entry_ne rest _ (fun m => h (List.mem_cons_of_mem _ m)), hone]

/-! ### The close of a context -/

@[simp] theorem State.closeContext_now (c : ContextIndex) : (s.closeContext c).now = s.now := by
  unfold State.closeContext; split <;> first | rfl | (split <;> rfl)

@[simp] theorem State.closeSlotContext_now (sl : Slot) : (s.closeSlotContext sl).now = s.now := by
  unfold State.closeSlotContext; split <;> simp

@[simp] theorem State.closeContext_preset (c : ContextIndex) : (s.closeContext c).preset = s.preset := by
  unfold State.closeContext; split <;> first | rfl | (split <;> rfl)

@[simp] theorem State.closeSlotContext_preset (sl : Slot) : (s.closeSlotContext sl).preset = s.preset := by
  unfold State.closeSlotContext; split <;> simp

@[simp] theorem State.closeContext_hreset (c : ContextIndex) : (s.closeContext c).hreset = s.hreset := by
  unfold State.closeContext; split <;> first | rfl | (split <;> rfl)

@[simp] theorem State.closeSlotContext_hreset (sl : Slot) : (s.closeSlotContext sl).hreset = s.hreset := by
  unfold State.closeSlotContext; split <;> simp

@[simp] theorem State.closeContext_head (c : ContextIndex) : (s.closeContext c).head = s.head := by
  unfold State.closeContext; split <;> first | rfl | (split <;> rfl)

@[simp] theorem State.closeSlotContext_head (sl : Slot) : (s.closeSlotContext sl).head = s.head := by
  unfold State.closeSlotContext; split <;> simp

@[simp] theorem State.closeContext_episode (c : ContextIndex) : (s.closeContext c).episode = s.episode := by
  unfold State.closeContext; split <;> first | rfl | (split <;> rfl)

@[simp] theorem State.closeSlotContext_episode (sl : Slot) : (s.closeSlotContext sl).episode = s.episode := by
  unfold State.closeSlotContext; split <;> simp

@[simp] theorem State.closeContext_entries (c : ContextIndex) : (s.closeContext c).entries = s.entries := by
  unfold State.closeContext; split <;> first | rfl | (split <;> rfl)

@[simp] theorem State.closeSlotContext_entries (sl : Slot) : (s.closeSlotContext sl).entries = s.entries := by
  unfold State.closeSlotContext; split <;> simp

@[simp] theorem State.closeContext_acceptOrder (c : ContextIndex) : (s.closeContext c).acceptOrder = s.acceptOrder := by
  unfold State.closeContext; split <;> first | rfl | (split <;> rfl)

@[simp] theorem State.closeSlotContext_acceptOrder (sl : Slot) : (s.closeSlotContext sl).acceptOrder = s.acceptOrder := by
  unfold State.closeSlotContext; split <;> simp

@[simp] theorem State.closeContext_issueQ (c : ContextIndex) : (s.closeContext c).issueQ = s.issueQ := by
  unfold State.closeContext; split <;> first | rfl | (split <;> rfl)

@[simp] theorem State.closeSlotContext_issueQ (sl : Slot) : (s.closeSlotContext sl).issueQ = s.issueQ := by
  unfold State.closeSlotContext; split <;> simp

@[simp] theorem State.closeContext_respQ (c : ContextIndex) : (s.closeContext c).respQ = s.respQ := by
  unfold State.closeContext; split <;> first | rfl | (split <;> rfl)

@[simp] theorem State.closeSlotContext_respQ (sl : Slot) : (s.closeSlotContext sl).respQ = s.respQ := by
  unfold State.closeSlotContext; split <;> simp

@[simp] theorem State.closeContext_blocked (c : ContextIndex) : (s.closeContext c).blocked = s.blocked := by
  unfold State.closeContext; split <;> first | rfl | (split <;> rfl)

@[simp] theorem State.closeSlotContext_blocked (sl : Slot) : (s.closeSlotContext sl).blocked = s.blocked := by
  unfold State.closeSlotContext; split <;> simp

@[simp] theorem State.closeContext_pool (c : ContextIndex) : (s.closeContext c).pool = s.pool := by
  unfold State.closeContext; split <;> first | rfl | (split <;> rfl)

@[simp] theorem State.closeSlotContext_pool (sl : Slot) : (s.closeSlotContext sl).pool = s.pool := by
  unfold State.closeSlotContext; split <;> simp

@[simp] theorem State.closeContext_windows (c : ContextIndex) : (s.closeContext c).windows = s.windows := by
  unfold State.closeContext; split <;> first | rfl | (split <;> rfl)

@[simp] theorem State.closeSlotContext_windows (sl : Slot) : (s.closeSlotContext sl).windows = s.windows := by
  unfold State.closeSlotContext; split <;> simp

@[simp] theorem State.closeContext_ticket (c : ContextIndex) : (s.closeContext c).ticket = s.ticket := by
  unfold State.closeContext; split <;> first | rfl | (split <;> rfl)

@[simp] theorem State.closeSlotContext_ticket (sl : Slot) : (s.closeSlotContext sl).ticket = s.ticket := by
  unfold State.closeSlotContext; split <;> simp

@[simp] theorem State.closeContext_cells (c : ContextIndex) : (s.closeContext c).cells = s.cells := by
  unfold State.closeContext; split <;> first | rfl | (split <;> rfl)

@[simp] theorem State.closeSlotContext_cells (sl : Slot) : (s.closeSlotContext sl).cells = s.cells := by
  unfold State.closeSlotContext; split <;> simp

@[simp] theorem State.closeContext_answerLists (c : ContextIndex) : (s.closeContext c).answerLists = s.answerLists := by
  unfold State.closeContext; split <;> first | rfl | (split <;> rfl)

@[simp] theorem State.closeSlotContext_answerLists (sl : Slot) : (s.closeSlotContext sl).answerLists = s.answerLists := by
  unfold State.closeSlotContext; split <;> simp

@[simp] theorem State.closeContext_captureLists (c : ContextIndex) : (s.closeContext c).captureLists = s.captureLists := by
  unfold State.closeContext; split <;> first | rfl | (split <;> rfl)

@[simp] theorem State.closeSlotContext_captureLists (sl : Slot) : (s.closeSlotContext sl).captureLists = s.captureLists := by
  unfold State.closeSlotContext; split <;> simp

@[simp] theorem State.closeContext_causes (c : ContextIndex) : (s.closeContext c).causes = s.causes := by
  unfold State.closeContext; split <;> first | rfl | (split <;> rfl)

@[simp] theorem State.closeSlotContext_causes (sl : Slot) : (s.closeSlotContext sl).causes = s.causes := by
  unfold State.closeSlotContext; split <;> simp

@[simp] theorem State.closeContext_enabled (c : ContextIndex) : (s.closeContext c).enabled = s.enabled := by
  unfold State.closeContext; split <;> first | rfl | (split <;> rfl)

@[simp] theorem State.closeSlotContext_enabled (sl : Slot) : (s.closeSlotContext sl).enabled = s.enabled := by
  unfold State.closeSlotContext; split <;> simp

@[simp] theorem State.closeContext_link (c : ContextIndex) : (s.closeContext c).link = s.link := by
  unfold State.closeContext; split <;> first | rfl | (split <;> rfl)

@[simp] theorem State.closeSlotContext_link (sl : Slot) : (s.closeSlotContext sl).link = s.link := by
  unfold State.closeSlotContext; split <;> simp

@[simp] theorem State.closeContext_gate (c : ContextIndex) : (s.closeContext c).gate = s.gate := by
  unfold State.closeContext; split <;> first | rfl | (split <;> rfl)

@[simp] theorem State.closeSlotContext_gate (sl : Slot) : (s.closeSlotContext sl).gate = s.gate := by
  unfold State.closeSlotContext; split <;> simp

@[simp] theorem State.closeContext_sdOut (c : ContextIndex) : (s.closeContext c).sdOut = s.sdOut := by
  unfold State.closeContext; split <;> first | rfl | (split <;> rfl)

@[simp] theorem State.closeSlotContext_sdOut (sl : Slot) : (s.closeSlotContext sl).sdOut = s.sdOut := by
  unfold State.closeSlotContext; split <;> simp

@[simp] theorem State.closeContext_pending (c : ContextIndex) : (s.closeContext c).pending = s.pending := by
  unfold State.closeContext; split <;> first | rfl | (split <;> rfl)

@[simp] theorem State.closeSlotContext_pending (sl : Slot) : (s.closeSlotContext sl).pending = s.pending := by
  unfold State.closeSlotContext; split <;> simp

/-- The context closed is FREE afterwards (R90). -/
theorem State.closeContext_contexts (c : ContextIndex) : (s.closeContext c).contexts = s.contexts.set c none := by
  unfold State.closeContext
  split
  · next h =>
    apply Vector.ext
    intro k hk
    rw [Vector.getElem_set]
    split
    · next hck => subst hck; exact h
    · rfl
  · split <;> rfl

/-- In FIXED mode the close moves no floor; in ROTATING mode it moves it to the class the context held (R81). -/
theorem State.closeContext_arb (c : ContextIndex) (o : OpenContext) (h : s.context c = some o) :
    (s.closeContext c).arb =
      match s.arb.order with
      | .fixed => s.arb
      | .rotating => { s.arb with floor := o.cls } := by
  unfold State.closeContext
  rw [h]
  cases s.arb.order <;> rfl

/-! ### The departure -/

@[simp] theorem State.routeDeparture_now (i : TransitIndex) (dest : Departure) :
    (s.routeDeparture i dest).now = s.now := by
  cases dest <;> rfl

@[simp] theorem State.routeDeparture_preset (i : TransitIndex) (dest : Departure) :
    (s.routeDeparture i dest).preset = s.preset := by
  cases dest <;> rfl

@[simp] theorem State.routeDeparture_hreset (i : TransitIndex) (dest : Departure) :
    (s.routeDeparture i dest).hreset = s.hreset := by
  cases dest <;> rfl

@[simp] theorem State.routeDeparture_head (i : TransitIndex) (dest : Departure) :
    (s.routeDeparture i dest).head = s.head := by
  cases dest <;> rfl

@[simp] theorem State.routeDeparture_episode (i : TransitIndex) (dest : Departure) :
    (s.routeDeparture i dest).episode = s.episode := by
  cases dest <;> rfl

@[simp] theorem State.routeDeparture_acceptOrder (i : TransitIndex) (dest : Departure) :
    (s.routeDeparture i dest).acceptOrder = s.acceptOrder := by
  cases dest <;> rfl

@[simp] theorem State.routeDeparture_blocked (i : TransitIndex) (dest : Departure) :
    (s.routeDeparture i dest).blocked = s.blocked := by
  cases dest <;> rfl

@[simp] theorem State.routeDeparture_pool (i : TransitIndex) (dest : Departure) :
    (s.routeDeparture i dest).pool = s.pool := by
  cases dest <;> rfl

@[simp] theorem State.routeDeparture_windows (i : TransitIndex) (dest : Departure) :
    (s.routeDeparture i dest).windows = s.windows := by
  cases dest <;> rfl

@[simp] theorem State.routeDeparture_arb (i : TransitIndex) (dest : Departure) :
    (s.routeDeparture i dest).arb = s.arb := by
  cases dest <;> rfl

@[simp] theorem State.routeDeparture_ticket (i : TransitIndex) (dest : Departure) :
    (s.routeDeparture i dest).ticket = s.ticket := by
  cases dest <;> rfl

@[simp] theorem State.routeDeparture_contexts (i : TransitIndex) (dest : Departure) :
    (s.routeDeparture i dest).contexts = s.contexts := by
  cases dest <;> rfl

@[simp] theorem State.routeDeparture_cells (i : TransitIndex) (dest : Departure) :
    (s.routeDeparture i dest).cells = s.cells := by
  cases dest <;> rfl

@[simp] theorem State.routeDeparture_answerLists (i : TransitIndex) (dest : Departure) :
    (s.routeDeparture i dest).answerLists = s.answerLists := by
  cases dest <;> rfl

@[simp] theorem State.routeDeparture_captureLists (i : TransitIndex) (dest : Departure) :
    (s.routeDeparture i dest).captureLists = s.captureLists := by
  cases dest <;> rfl

@[simp] theorem State.routeDeparture_causes (i : TransitIndex) (dest : Departure) :
    (s.routeDeparture i dest).causes = s.causes := by
  cases dest <;> rfl

@[simp] theorem State.routeDeparture_enabled (i : TransitIndex) (dest : Departure) :
    (s.routeDeparture i dest).enabled = s.enabled := by
  cases dest <;> rfl

@[simp] theorem State.routeDeparture_link (i : TransitIndex) (dest : Departure) :
    (s.routeDeparture i dest).link = s.link := by
  cases dest <;> rfl

@[simp] theorem State.routeDeparture_gate (i : TransitIndex) (dest : Departure) :
    (s.routeDeparture i dest).gate = s.gate := by
  cases dest <;> rfl

@[simp] theorem State.routeDeparture_sdOut (i : TransitIndex) (dest : Departure) :
    (s.routeDeparture i dest).sdOut = s.sdOut := by
  cases dest <;> rfl

@[simp] theorem State.routeDeparture_pending (i : TransitIndex) (dest : Departure) :
    (s.routeDeparture i dest).pending = s.pending := by
  cases dest <;> rfl

@[simp] theorem State.depart_now (sl : Slot) (e : Entry) (dest : Departure) :
    (s.depart sl e dest).now = s.now := by
  simp [State.depart]

@[simp] theorem State.depart_preset (sl : Slot) (e : Entry) (dest : Departure) :
    (s.depart sl e dest).preset = s.preset := by
  simp [State.depart]

@[simp] theorem State.depart_hreset (sl : Slot) (e : Entry) (dest : Departure) :
    (s.depart sl e dest).hreset = s.hreset := by
  simp [State.depart]

@[simp] theorem State.depart_head (sl : Slot) (e : Entry) (dest : Departure) :
    (s.depart sl e dest).head = s.head := by
  simp [State.depart]

@[simp] theorem State.depart_episode (sl : Slot) (e : Entry) (dest : Departure) :
    (s.depart sl e dest).episode = s.episode := by
  simp [State.depart]

@[simp] theorem State.depart_acceptOrder (sl : Slot) (e : Entry) (dest : Departure) :
    (s.depart sl e dest).acceptOrder = s.acceptOrder := by
  simp [State.depart]

@[simp] theorem State.depart_windows (sl : Slot) (e : Entry) (dest : Departure) :
    (s.depart sl e dest).windows = s.windows := by
  simp [State.depart]

@[simp] theorem State.depart_ticket (sl : Slot) (e : Entry) (dest : Departure) :
    (s.depart sl e dest).ticket = s.ticket := by
  simp [State.depart]

@[simp] theorem State.depart_enabled (sl : Slot) (e : Entry) (dest : Departure) :
    (s.depart sl e dest).enabled = s.enabled := by
  simp [State.depart]

@[simp] theorem State.depart_link (sl : Slot) (e : Entry) (dest : Departure) :
    (s.depart sl e dest).link = s.link := by
  simp [State.depart]

@[simp] theorem State.depart_gate (sl : Slot) (e : Entry) (dest : Departure) :
    (s.depart sl e dest).gate = s.gate := by
  simp [State.depart]

@[simp] theorem State.depart_sdOut (sl : Slot) (e : Entry) (dest : Departure) :
    (s.depart sl e dest).sdOut = s.sdOut := by
  simp [State.depart]

@[simp] theorem State.depart_pending (sl : Slot) (e : Entry) (dest : Departure) :
    (s.depart sl e dest).pending = s.pending := by
  simp [State.depart]

/-! ### The end of an event -/

@[simp] theorem State.postStall_now (r : Request) (x : StallReason) : (s.postStall r x).now = s.now := by
  cases x <;> rfl

@[simp] theorem State.postStall_preset (r : Request) (x : StallReason) : (s.postStall r x).preset = s.preset := by
  cases x <;> rfl

@[simp] theorem State.postStall_hreset (r : Request) (x : StallReason) : (s.postStall r x).hreset = s.hreset := by
  cases x <;> rfl

@[simp] theorem State.postStall_head (r : Request) (x : StallReason) : (s.postStall r x).head = s.head := by
  cases x <;> rfl

@[simp] theorem State.postStall_episode (r : Request) (x : StallReason) : (s.postStall r x).episode = s.episode := by
  cases x <;> rfl

@[simp] theorem State.postStall_entries (r : Request) (x : StallReason) : (s.postStall r x).entries = s.entries := by
  cases x <;> rfl

@[simp] theorem State.postStall_acceptOrder (r : Request) (x : StallReason) : (s.postStall r x).acceptOrder = s.acceptOrder := by
  cases x <;> rfl

@[simp] theorem State.postStall_issueQ (r : Request) (x : StallReason) : (s.postStall r x).issueQ = s.issueQ := by
  cases x <;> rfl

@[simp] theorem State.postStall_respQ (r : Request) (x : StallReason) : (s.postStall r x).respQ = s.respQ := by
  cases x <;> rfl

@[simp] theorem State.postStall_blocked (r : Request) (x : StallReason) : (s.postStall r x).blocked = s.blocked := by
  cases x <;> rfl

@[simp] theorem State.postStall_pool (r : Request) (x : StallReason) : (s.postStall r x).pool = s.pool := by
  cases x <;> rfl

@[simp] theorem State.postStall_windows (r : Request) (x : StallReason) : (s.postStall r x).windows = s.windows := by
  cases x <;> rfl

@[simp] theorem State.postStall_arb (r : Request) (x : StallReason) : (s.postStall r x).arb = s.arb := by
  cases x <;> rfl

@[simp] theorem State.postStall_ticket (r : Request) (x : StallReason) : (s.postStall r x).ticket = s.ticket := by
  cases x <;> rfl

@[simp] theorem State.postStall_contexts (r : Request) (x : StallReason) : (s.postStall r x).contexts = s.contexts := by
  cases x <;> rfl

@[simp] theorem State.postStall_cells (r : Request) (x : StallReason) : (s.postStall r x).cells = s.cells := by
  cases x <;> rfl

@[simp] theorem State.postStall_answerLists (r : Request) (x : StallReason) : (s.postStall r x).answerLists = s.answerLists := by
  cases x <;> rfl

@[simp] theorem State.postStall_captureLists (r : Request) (x : StallReason) : (s.postStall r x).captureLists = s.captureLists := by
  cases x <;> rfl

@[simp] theorem State.postStall_enabled (r : Request) (x : StallReason) : (s.postStall r x).enabled = s.enabled := by
  cases x <;> rfl

@[simp] theorem State.postStall_link (r : Request) (x : StallReason) : (s.postStall r x).link = s.link := by
  cases x <;> rfl

@[simp] theorem State.postStall_gate (r : Request) (x : StallReason) : (s.postStall r x).gate = s.gate := by
  cases x <;> rfl

@[simp] theorem State.postStall_sdOut (r : Request) (x : StallReason) : (s.postStall r x).sdOut = s.sdOut := by
  cases x <;> rfl

@[simp] theorem State.postStall_pending (r : Request) (x : StallReason) : (s.postStall r x).pending = s.pending := by
  cases x <;> rfl

@[simp] theorem State.openEpisode_now : s.openEpisode.now = s.now := by
  unfold State.openEpisode; repeat' split
  all_goals simp

@[simp] theorem State.openEpisode_preset : s.openEpisode.preset = s.preset := by
  unfold State.openEpisode; repeat' split
  all_goals simp

@[simp] theorem State.openEpisode_hreset : s.openEpisode.hreset = s.hreset := by
  unfold State.openEpisode; repeat' split
  all_goals simp

@[simp] theorem State.openEpisode_head : s.openEpisode.head = s.head := by
  unfold State.openEpisode; repeat' split
  all_goals simp

@[simp] theorem State.openEpisode_entries : s.openEpisode.entries = s.entries := by
  unfold State.openEpisode; repeat' split
  all_goals simp

@[simp] theorem State.openEpisode_acceptOrder : s.openEpisode.acceptOrder = s.acceptOrder := by
  unfold State.openEpisode; repeat' split
  all_goals simp

@[simp] theorem State.openEpisode_issueQ : s.openEpisode.issueQ = s.issueQ := by
  unfold State.openEpisode; repeat' split
  all_goals simp

@[simp] theorem State.openEpisode_respQ : s.openEpisode.respQ = s.respQ := by
  unfold State.openEpisode; repeat' split
  all_goals simp

@[simp] theorem State.openEpisode_blocked : s.openEpisode.blocked = s.blocked := by
  unfold State.openEpisode; repeat' split
  all_goals simp

@[simp] theorem State.openEpisode_pool : s.openEpisode.pool = s.pool := by
  unfold State.openEpisode; repeat' split
  all_goals simp

@[simp] theorem State.openEpisode_windows : s.openEpisode.windows = s.windows := by
  unfold State.openEpisode; repeat' split
  all_goals simp

@[simp] theorem State.openEpisode_arb : s.openEpisode.arb = s.arb := by
  unfold State.openEpisode; repeat' split
  all_goals simp

@[simp] theorem State.openEpisode_ticket : s.openEpisode.ticket = s.ticket := by
  unfold State.openEpisode; repeat' split
  all_goals simp

@[simp] theorem State.openEpisode_contexts : s.openEpisode.contexts = s.contexts := by
  unfold State.openEpisode; repeat' split
  all_goals simp

@[simp] theorem State.openEpisode_cells : s.openEpisode.cells = s.cells := by
  unfold State.openEpisode; repeat' split
  all_goals simp

@[simp] theorem State.openEpisode_answerLists : s.openEpisode.answerLists = s.answerLists := by
  unfold State.openEpisode; repeat' split
  all_goals simp

@[simp] theorem State.openEpisode_captureLists : s.openEpisode.captureLists = s.captureLists := by
  unfold State.openEpisode; repeat' split
  all_goals simp

@[simp] theorem State.openEpisode_enabled : s.openEpisode.enabled = s.enabled := by
  unfold State.openEpisode; repeat' split
  all_goals simp

@[simp] theorem State.openEpisode_link : s.openEpisode.link = s.link := by
  unfold State.openEpisode; repeat' split
  all_goals simp

@[simp] theorem State.openEpisode_gate : s.openEpisode.gate = s.gate := by
  unfold State.openEpisode; repeat' split
  all_goals simp

@[simp] theorem State.openEpisode_sdOut : s.openEpisode.sdOut = s.sdOut := by
  unfold State.openEpisode; repeat' split
  all_goals simp

@[simp] theorem State.openEpisode_pending : s.openEpisode.pending = s.pending := by
  unfold State.openEpisode; repeat' split
  all_goals simp

@[simp] theorem State.quiesceTest_now : s.quiesceTest.now = s.now := by
  unfold State.quiesceTest; repeat' split
  all_goals rfl

@[simp] theorem State.quiesceTest_preset : s.quiesceTest.preset = s.preset := by
  unfold State.quiesceTest; repeat' split
  all_goals rfl

@[simp] theorem State.quiesceTest_hreset : s.quiesceTest.hreset = s.hreset := by
  unfold State.quiesceTest; repeat' split
  all_goals rfl

@[simp] theorem State.quiesceTest_head : s.quiesceTest.head = s.head := by
  unfold State.quiesceTest; repeat' split
  all_goals rfl

@[simp] theorem State.quiesceTest_episode : s.quiesceTest.episode = s.episode := by
  unfold State.quiesceTest; repeat' split
  all_goals rfl

@[simp] theorem State.quiesceTest_entries : s.quiesceTest.entries = s.entries := by
  unfold State.quiesceTest; repeat' split
  all_goals rfl

@[simp] theorem State.quiesceTest_acceptOrder : s.quiesceTest.acceptOrder = s.acceptOrder := by
  unfold State.quiesceTest; repeat' split
  all_goals rfl

@[simp] theorem State.quiesceTest_issueQ : s.quiesceTest.issueQ = s.issueQ := by
  unfold State.quiesceTest; repeat' split
  all_goals rfl

@[simp] theorem State.quiesceTest_respQ : s.quiesceTest.respQ = s.respQ := by
  unfold State.quiesceTest; repeat' split
  all_goals rfl

@[simp] theorem State.quiesceTest_blocked : s.quiesceTest.blocked = s.blocked := by
  unfold State.quiesceTest; repeat' split
  all_goals rfl

@[simp] theorem State.quiesceTest_pool : s.quiesceTest.pool = s.pool := by
  unfold State.quiesceTest; repeat' split
  all_goals rfl

@[simp] theorem State.quiesceTest_windows : s.quiesceTest.windows = s.windows := by
  unfold State.quiesceTest; repeat' split
  all_goals rfl

@[simp] theorem State.quiesceTest_arb : s.quiesceTest.arb = s.arb := by
  unfold State.quiesceTest; repeat' split
  all_goals rfl

@[simp] theorem State.quiesceTest_ticket : s.quiesceTest.ticket = s.ticket := by
  unfold State.quiesceTest; repeat' split
  all_goals rfl

@[simp] theorem State.quiesceTest_contexts : s.quiesceTest.contexts = s.contexts := by
  unfold State.quiesceTest; repeat' split
  all_goals rfl

@[simp] theorem State.quiesceTest_cells : s.quiesceTest.cells = s.cells := by
  unfold State.quiesceTest; repeat' split
  all_goals rfl

@[simp] theorem State.quiesceTest_answerLists : s.quiesceTest.answerLists = s.answerLists := by
  unfold State.quiesceTest; repeat' split
  all_goals rfl

@[simp] theorem State.quiesceTest_captureLists : s.quiesceTest.captureLists = s.captureLists := by
  unfold State.quiesceTest; repeat' split
  all_goals rfl

@[simp] theorem State.quiesceTest_causes : s.quiesceTest.causes = s.causes := by
  unfold State.quiesceTest; repeat' split
  all_goals rfl

@[simp] theorem State.quiesceTest_enabled : s.quiesceTest.enabled = s.enabled := by
  unfold State.quiesceTest; repeat' split
  all_goals rfl

@[simp] theorem State.quiesceTest_gate : s.quiesceTest.gate = s.gate := by
  unfold State.quiesceTest; repeat' split
  all_goals rfl

@[simp] theorem State.quiesceTest_sdOut : s.quiesceTest.sdOut = s.sdOut := by
  unfold State.quiesceTest; repeat' split
  all_goals rfl

@[simp] theorem State.quiesceTest_pending : s.quiesceTest.pending = s.pending := by
  unfold State.quiesceTest; repeat' split
  all_goals rfl

@[simp] theorem State.settle_now : s.settle.now = s.now := by simp [State.settle]

@[simp] theorem State.settle_preset : s.settle.preset = s.preset := by simp [State.settle]

@[simp] theorem State.settle_hreset : s.settle.hreset = s.hreset := by simp [State.settle]

@[simp] theorem State.settle_head : s.settle.head = s.head := by simp [State.settle]

@[simp] theorem State.settle_entries : s.settle.entries = s.entries := by simp [State.settle]

@[simp] theorem State.settle_acceptOrder : s.settle.acceptOrder = s.acceptOrder := by simp [State.settle]

@[simp] theorem State.settle_issueQ : s.settle.issueQ = s.issueQ := by simp [State.settle]

@[simp] theorem State.settle_respQ : s.settle.respQ = s.respQ := by simp [State.settle]

@[simp] theorem State.settle_blocked : s.settle.blocked = s.blocked := by simp [State.settle]

@[simp] theorem State.settle_pool : s.settle.pool = s.pool := by simp [State.settle]

@[simp] theorem State.settle_windows : s.settle.windows = s.windows := by simp [State.settle]

@[simp] theorem State.settle_arb : s.settle.arb = s.arb := by simp [State.settle]

@[simp] theorem State.settle_ticket : s.settle.ticket = s.ticket := by simp [State.settle]

@[simp] theorem State.settle_contexts : s.settle.contexts = s.contexts := by simp [State.settle]

@[simp] theorem State.settle_cells : s.settle.cells = s.cells := by simp [State.settle]

@[simp] theorem State.settle_answerLists : s.settle.answerLists = s.answerLists := by simp [State.settle]

@[simp] theorem State.settle_captureLists : s.settle.captureLists = s.captureLists := by simp [State.settle]

@[simp] theorem State.settle_enabled : s.settle.enabled = s.enabled := by simp [State.settle]

@[simp] theorem State.settle_gate : s.settle.gate = s.gate := by simp [State.settle]

@[simp] theorem State.settle_sdOut : s.settle.sdOut = s.sdOut := by simp [State.settle]

@[simp] theorem State.settle_pending : s.settle.pending = s.pending := by simp [State.settle]


/-- Where no stall begins, the end of an event leaves the H-port as it is (R11). -/
theorem State.openEpisode_eq_self (h : s.stallReason ≠ .none → s.episode = true) : s.openEpisode = s := by
  unfold State.openEpisode
  split
  · rfl
  · split
    · rfl
    · next hep =>
      split
      · rfl
      · next hs => exact absurd (h hs) hep

/-- Where QUIESCE is not due to complete, its test leaves the link as it is (R168). -/
theorem State.quiesceTest_eq_self (h : s.quiesceDue.isSome = true → s.anyForwarded = true) : s.quiesceTest = s := by
  unfold State.quiesceTest
  split
  · next hl => rw [if_pos (h (by simp [State.quiesceDue, hl]))]
  all_goals rfl

/-- A settled state has nothing to settle. -/
theorem State.settle_eq_self (h : s.Settled) : s.settle = s := by
  rw [State.settle, State.quiesceTest_eq_self s h.2.1, State.openEpisode_eq_self s h.1]

/-- With no head request, no stall begins (R10). -/
theorem State.openEpisode_of_no_head (h : s.head = none) : s.openEpisode = s := by
  simp [State.openEpisode, h]

end Sys2Proof.Machine
end

