-- ==== Sys2Proof/Laws/Link.lean ====
section
/-! SUPPORT. The link: a command on a link that takes it is executed; an execution is its owner's effect and then the
response (R160, R161). -/

namespace Sys2Proof.Machine

-- One proof at a time: proofs in parallel wait for one another on threads of their own, each with its stack.
set_option Elab.async false

/-- On a link that takes a command, the whole frame is its execution. -/
theorem sendFrame_ready {s : State} (h : s.LinkReady) (c : Instr) (effect : State → State) :
    sendFrame c effect s = .next (effect s) := by
  obtain ⟨hp, hl⟩ := h
  simp [sendFrame, hp, hl]

/-- An answered command's link holds the response, unread. -/
theorem State.answerWith_eq (s : State) (L : Nat) (r : Reply) :
    s.answerWith L r = { s with link := .responding L (responseFrame r) 0 } := rfl

/-- The start of a stall episode does not read the link, so the response may be built before or after it. -/
theorem State.openEpisode_answerWith (s : State) (L : Nat) (r : Reply) :
    (s.answerWith L r).openEpisode = s.openEpisode.answerWith L r := by
  unfold State.openEpisode
  cases hh : s.head with
  | none => rw [State.answerWith_head, hh]
  | some q =>
    have hs : (s.answerWith L r).stallReason = s.stallReason := rfl
    rw [State.answerWith_head, hh, State.answerWith_episode, hs]
    cases he : s.episode
    · cases hr : s.stallReason <;> rfl
    · rfl

/-- While PRESET# is asserted no byte reaches the link (R154). -/
theorem State.writeBytes_preset {s : State} (h : s.preset = true) (bs : List Byte) : s.writeBytes bs = s := by
  induction bs with
  | nil => rfl
  | cons b bs ih => simpa [State.writeBytes, State.writeByte, h] using ih

/-- A status read returns the status byte in any state of the link (R165). -/
@[simp] theorem State.statusRead_working {s : State} (h : s.preset = false) : s.statusRead = some s.linkStatusByte := by
  simp [State.statusRead, h]

/-- While PRESET# is asserted a status read is not answered (R154). -/
@[simp] theorem State.statusRead_preset {s : State} (h : s.preset = true) : s.statusRead = none := by
  simp [State.statusRead, h]

end Sys2Proof.Machine
end

