-- ==== Sys2Proof/Laws/ListMemory.lean ====
section
/-! SUPPORT. List memory: a read after a write, and the canonical form that every write keeps (R121, R122, R136). -/

namespace Sys2Proof.Machine

-- One proof at a time: proofs in parallel wait for one another on threads of their own, each with its stack.
set_option Elab.async false

theorem cellsWfFrom_cons {lo n : Nat} {c : Cell} {rest : List (Nat × Cell)} :
    cellsWfFrom lo ((n, c) :: rest) = true ↔ lo ≤ n ∧ n < 512 ∧ c ≠ Cell.blank ∧ cellsWfFrom (n + 1) rest = true := by
  simp [cellsWfFrom, and_assoc]

/-- A lower bound may be relaxed. -/
theorem cellsWfFrom_mono {lo lo' : Nat} (h : lo' ≤ lo) :
    ∀ {cells : List (Nat × Cell)}, cellsWfFrom lo cells = true → cellsWfFrom lo' cells = true
  | [], _ => rfl
  | (n, c) :: rest, hw => by
    rw [cellsWfFrom_cons] at hw ⊢
    exact ⟨by omega, hw.2⟩

/-- A cell below every listed address is blank (R136). -/
theorem readCell_below {lo n : Nat} (h : n < lo) :
    ∀ {cells : List (Nat × Cell)}, cellsWfFrom lo cells = true → readCell cells n = Cell.blank
  | [], _ => rfl
  | (m, d) :: rest, hw => by
    rw [cellsWfFrom_cons] at hw
    rw [readCell, if_neg (by omega)]
    exact readCell_below (lo := m + 1) (by omega) hw.2.2.2

/-- Writing keeps the canonical form. -/
theorem writeCell_wfFrom {n : Nat} (c : Cell) (hn : n < 512) :
    ∀ {cells : List (Nat × Cell)} {lo : Nat}, lo ≤ n → cellsWfFrom lo cells = true →
      cellsWfFrom lo (writeCell cells n c) = true
  | [], lo, hlo, _ => by
    unfold writeCell
    split
    · rfl
    · next hc => rw [cellsWfFrom_cons]; exact ⟨hlo, hn, hc, rfl⟩
  | (m, d) :: rest, lo, hlo, hw => by
    rw [cellsWfFrom_cons] at hw
    obtain ⟨hm, hm', hd, hr⟩ := hw
    unfold writeCell
    split
    · split
      · rw [cellsWfFrom_cons]; exact ⟨hm, hm', hd, hr⟩
      · next hnm hc =>
        rw [cellsWfFrom_cons, cellsWfFrom_cons]
        exact ⟨hlo, hn, hc, by omega, hm', hd, hr⟩
    · split
      · next hnm =>
        subst hnm
        split
        · exact cellsWfFrom_mono (by omega) hr
        · next hc => rw [cellsWfFrom_cons]; exact ⟨hm, hn, hc, hr⟩
      · rw [cellsWfFrom_cons]
        exact ⟨hm, hm', hd, writeCell_wfFrom c hn (by omega) hr⟩

/-- Writing a cell of list memory keeps the canonical form. -/
theorem writeCell_wf {cells : List (Nat × Cell)} {n : Nat} (c : Cell) (hn : n < 512) (hw : cellsWf cells = true) :
    cellsWf (writeCell cells n c) = true :=
  writeCell_wfFrom c hn (Nat.zero_le _) hw

/-- Writing a run that fits list memory keeps the canonical form (R122). -/
theorem writeRun_wf : ∀ (words : List Word) {cells : List (Nat × Cell)} {start : Nat}, start + words.length ≤ 512 →
    cellsWf cells = true → cellsWf (writeRun cells start words) = true
  | [], _, _, _, hw => hw
  | w :: ws, _, _, h, hw => by
    simp only [List.length_cons] at h
    exact writeRun_wf ws (by omega) (writeCell_wf _ (by omega) hw)

/-- A cell read after it is written. -/
theorem readCell_writeCell_self {n : Nat} (c : Cell) :
    ∀ {cells : List (Nat × Cell)} {lo : Nat}, cellsWfFrom lo cells = true → readCell (writeCell cells n c) n = c
  | [], _, _ => by
    unfold writeCell
    split
    · next hc => exact hc.symm
    · simp [readCell]
  | (m, d) :: rest, lo, hw => by
    have hw' := hw
    rw [cellsWfFrom_cons] at hw
    unfold writeCell
    split
    · split
      · next hnm hc =>
        rw [hc]
        exact readCell_below (lo := m) hnm (cellsWfFrom_cons.2 ⟨Nat.le_refl _, hw.2⟩)
      · simp [readCell]
    · split
      · next hnm =>
        subst hnm
        split
        · next hc => rw [hc]; exact readCell_below (Nat.lt_succ_self n) hw.2.2.2
        · simp [readCell]
      · next hne =>
        rw [readCell, if_neg (fun h => hne h.symm)]
        exact readCell_writeCell_self c hw.2.2.2

/-- Writing a cell leaves every other cell as it is. -/
theorem readCell_writeCell_ne {n k : Nat} (c : Cell) (hk : k ≠ n) :
    ∀ {cells : List (Nat × Cell)} {lo : Nat}, cellsWfFrom lo cells = true →
      readCell (writeCell cells n c) k = readCell cells k
  | [], _, _ => by
    unfold writeCell
    split
    · rfl
    · simp [readCell, Ne.symm hk]
  | (m, d) :: rest, lo, hw => by
    rw [cellsWfFrom_cons] at hw
    unfold writeCell
    split
    · split
      · rfl
      · rw [readCell, if_neg (Ne.symm hk)]
    · split
      · next hnm =>
        subst hnm
        split
        · rw [readCell, if_neg (Ne.symm hk)]
        · simp [readCell, Ne.symm hk]
      · by_cases hmk : m = k
        · simp [readCell, hmk]
        · simp only [readCell, hmk, if_false]
          exact readCell_writeCell_ne c hk hw.2.2.2

end Sys2Proof.Machine
end

