-- ==== Sys2Proof/Laws/PerInstr.lean ====
section
/-! SUPPORT. Lemmas made command by command: the frame of a well-formed framed command reads back as that command (R160,
R175 to R182). -/

namespace Sys2Proof.Laws

-- One proof at a time: proofs in parallel wait for one another on threads of their own, each with its stack.
set_option Elab.async false

open Sys2Proof.Machine

/-- A well-formed command's opcode and payload read back as that command (R160 tests 2 and 3, R175). -/
def frameRoundTrip.Statement (c : Instr) : Prop :=
  ∀ op payload, c.wf = true → commandPayload c = some (op, payload) → readCommand op.toNat payload = .command c

theorem frameRoundTrip.headRequestPresented (r : Request) : frameRoundTrip.Statement (.headRequestPresented r) := by
  intro op payload _ h
  simp [commandPayload] at h

theorem frameRoundTrip.acceptance : frameRoundTrip.Statement .acceptance := by
  intro op payload _ h
  simp [commandPayload] at h

theorem frameRoundTrip.issue : frameRoundTrip.Statement .issue := by
  intro op payload _ h
  simp [commandPayload] at h

theorem frameRoundTrip.memoryResponse (i : TransitIndex) (reply : MemReply) : frameRoundTrip.Statement (.memoryResponse i reply) := by
  intro op payload _ h
  simp [commandPayload] at h

theorem frameRoundTrip.hostTake : frameRoundTrip.Statement .hostTake := by
  intro op payload _ h
  simp [commandPayload] at h

theorem frameRoundTrip.hostReset : frameRoundTrip.Statement .hostReset := by
  intro op payload _ h
  simp [commandPayload] at h

theorem frameRoundTrip.hresetNegation : frameRoundTrip.Statement .hresetNegation := by
  intro op payload _ h
  simp [commandPayload] at h

theorem frameRoundTrip.powerOnReset : frameRoundTrip.Statement .powerOnReset := by
  intro op payload _ h
  simp [commandPayload] at h

theorem frameRoundTrip.presetNegation : frameRoundTrip.Statement .presetNegation := by
  intro op payload _ h
  simp [commandPayload] at h

theorem frameRoundTrip.deadlineExpiry (i : TransitIndex) : frameRoundTrip.Statement (.deadlineExpiry i) := by
  intro op payload _ h
  simp [commandPayload] at h

theorem frameRoundTrip.gapTimerExpiry : frameRoundTrip.Statement .gapTimerExpiry := by
  intro op payload _ h
  simp [commandPayload] at h

theorem frameRoundTrip.quiesceCompletion : frameRoundTrip.Statement .quiesceCompletion := by
  intro op payload _ h
  simp [commandPayload] at h

theorem frameRoundTrip.quiesceTimerExpiry : frameRoundTrip.Statement .quiesceTimerExpiry := by
  intro op payload _ h
  simp [commandPayload] at h

theorem frameRoundTrip.frameWrite (b : Byte) : frameRoundTrip.Statement (.frameWrite b) := by
  intro op payload _ h
  simp [commandPayload] at h

theorem frameRoundTrip.frameRead : frameRoundTrip.Statement .frameRead := by
  intro op payload _ h
  simp [commandPayload] at h

theorem frameRoundTrip.abort (control : Byte) : frameRoundTrip.Statement (.abort control) := by
  intro op payload _ h
  simp [commandPayload] at h

theorem frameRoundTrip.identify : frameRoundTrip.Statement .identify := by
  intro op payload _ h
  simp only [commandPayload, Option.some.injEq, Prod.mk.injEq] at h
  obtain ⟨rfl, rfl⟩ := h
  simp [readCommand]

theorem frameRoundTrip.survey : frameRoundTrip.Statement .survey := by
  intro op payload _ h
  simp only [commandPayload, Option.some.injEq, Prod.mk.injEq] at h
  obtain ⟨rfl, rfl⟩ := h
  simp [readCommand]

theorem frameRoundTrip.writeWindow (w : WindowImage) : frameRoundTrip.Statement (.writeWindow w) := by
  intro op payload _ h
  simp only [commandPayload, Option.some.injEq, Prod.mk.injEq] at h
  obtain ⟨rfl, rfl⟩ := h
  simp [readCommand, bytesOfWord]

theorem frameRoundTrip.readWindow (index flag : Byte) : frameRoundTrip.Statement (.readWindow index flag) := by
  intro op payload _ h
  simp only [commandPayload, Option.some.injEq, Prod.mk.injEq] at h
  obtain ⟨rfl, rfl⟩ := h
  simp [readCommand]

theorem frameRoundTrip.setArbitration (order nesting floor suppressed notify : Byte) : frameRoundTrip.Statement (.setArbitration order nesting floor suppressed notify) := by
  intro op payload _ h
  simp only [commandPayload, Option.some.injEq, Prod.mk.injEq] at h
  obtain ⟨rfl, rfl⟩ := h
  simp [readCommand]

theorem frameRoundTrip.readArbitration : frameRoundTrip.Statement .readArbitration := by
  intro op payload _ h
  simp only [commandPayload, Option.some.injEq, Prod.mk.injEq] at h
  obtain ⟨rfl, rfl⟩ := h
  simp [readCommand]

theorem frameRoundTrip.take : frameRoundTrip.Statement .take := by
  intro op payload _ h
  simp only [commandPayload, Option.some.injEq, Prod.mk.injEq] at h
  obtain ⟨rfl, rfl⟩ := h
  simp [readCommand]

theorem frameRoundTrip.peek (ctx : Byte) : frameRoundTrip.Statement (.peek ctx) := by
  intro op payload _ h
  simp only [commandPayload, Option.some.injEq, Prod.mk.injEq] at h
  obtain ⟨rfl, rfl⟩ := h
  simp [readCommand]

theorem frameRoundTrip.release (ctx : Byte) (ticket : Half) : frameRoundTrip.Statement (.release ctx ticket) := by
  intro op payload _ h
  simp only [commandPayload, Option.some.injEq, Prod.mk.injEq] at h
  obtain ⟨rfl, rfl⟩ := h
  simp [readCommand, bytesOfHalf]

theorem frameRoundTrip.releaseWithData (ctx : Byte) (ticket : Half) (lanes : Byte) (data : Word) : frameRoundTrip.Statement (.releaseWithData ctx ticket lanes data) := by
  intro op payload _ h
  simp only [commandPayload, Option.some.injEq, Prod.mk.injEq] at h
  obtain ⟨rfl, rfl⟩ := h
  simp [readCommand, bytesOfHalf, bytesOfWord]

theorem frameRoundTrip.answer (ctx : Byte) (ticket : Half) (data : Word) : frameRoundTrip.Statement (.answer ctx ticket data) := by
  intro op payload _ h
  simp only [commandPayload, Option.some.injEq, Prod.mk.injEq] at h
  obtain ⟨rfl, rfl⟩ := h
  simp [readCommand, bytesOfHalf, bytesOfWord]

theorem frameRoundTrip.refuse (ctx : Byte) (ticket : Half) : frameRoundTrip.Statement (.refuse ctx ticket) := by
  intro op payload _ h
  simp only [commandPayload, Option.some.injEq, Prod.mk.injEq] at h
  obtain ⟨rfl, rfl⟩ := h
  simp [readCommand, bytesOfHalf]

theorem frameRoundTrip.extend (ctx : Byte) (ticket : Half) (code : Byte) : frameRoundTrip.Statement (.extend ctx ticket code) := by
  intro op payload _ h
  simp only [commandPayload, Option.some.injEq, Prod.mk.injEq] at h
  obtain ⟨rfl, rfl⟩ := h
  simp [readCommand, bytesOfHalf]

theorem frameRoundTrip.setList (list : Byte) (first length : Half) (control : Byte) : frameRoundTrip.Statement (.setList list first length control) := by
  intro op payload _ h
  simp only [commandPayload, Option.some.injEq, Prod.mk.injEq] at h
  obtain ⟨rfl, rfl⟩ := h
  simp [readCommand, bytesOfHalf]

theorem frameRoundTrip.loadCells (start : Half) (words : List Word) : frameRoundTrip.Statement (.loadCells start words) := by
  intro op payload hw h
  simp only [commandPayload, Option.some.injEq, Prod.mk.injEq] at h
  obtain ⟨rfl, rfl⟩ := h
  simp only [Instr.wf, loadRunOk, Bool.and_eq_true, decide_eq_true_eq] at hw
  simp [readCommand, bytesOfHalf, hw]

theorem frameRoundTrip.armList (list : Byte) : frameRoundTrip.Statement (.armList list) := by
  intro op payload _ h
  simp only [commandPayload, Option.some.injEq, Prod.mk.injEq] at h
  obtain ⟨rfl, rfl⟩ := h
  simp [readCommand]

theorem frameRoundTrip.disarmList (list : Byte) : frameRoundTrip.Statement (.disarmList list) := by
  intro op payload _ h
  simp only [commandPayload, Option.some.injEq, Prod.mk.injEq] at h
  obtain ⟨rfl, rfl⟩ := h
  simp [readCommand]

theorem frameRoundTrip.readList (list : Byte) : frameRoundTrip.Statement (.readList list) := by
  intro op payload _ h
  simp only [commandPayload, Option.some.injEq, Prod.mk.injEq] at h
  obtain ⟨rfl, rfl⟩ := h
  simp [readCommand]

theorem frameRoundTrip.drainCapture (list count : Byte) : frameRoundTrip.Statement (.drainCapture list count) := by
  intro op payload _ h
  simp only [commandPayload, Option.some.injEq, Prod.mk.injEq] at h
  obtain ⟨rfl, rfl⟩ := h
  simp [readCommand]

theorem frameRoundTrip.readAttention (cause : Byte) : frameRoundTrip.Statement (.readAttention cause) := by
  intro op payload _ h
  simp only [commandPayload, Option.some.injEq, Prod.mk.injEq] at h
  obtain ⟨rfl, rfl⟩ := h
  simp [readCommand]

theorem frameRoundTrip.clearAttention (causes : Half) : frameRoundTrip.Statement (.clearAttention causes) := by
  intro op payload _ h
  simp only [commandPayload, Option.some.injEq, Prod.mk.injEq] at h
  obtain ⟨rfl, rfl⟩ := h
  simp [readCommand, bytesOfHalf]

theorem frameRoundTrip.setAttentionEnable (causes : Half) : frameRoundTrip.Statement (.setAttentionEnable causes) := by
  intro op payload _ h
  simp only [commandPayload, Option.some.injEq, Prod.mk.injEq] at h
  obtain ⟨rfl, rfl⟩ := h
  simp [readCommand, bytesOfHalf]

theorem frameRoundTrip.gate (code : Byte) : frameRoundTrip.Statement (.gate code) := by
  intro op payload _ h
  simp only [commandPayload, Option.some.injEq, Prod.mk.injEq] at h
  obtain ⟨rfl, rfl⟩ := h
  simp [readCommand]

theorem frameRoundTrip.quiesce : frameRoundTrip.Statement .quiesce := by
  intro op payload _ h
  simp only [commandPayload, Option.some.injEq, Prod.mk.injEq] at h
  obtain ⟨rfl, rfl⟩ := h
  simp [readCommand]

theorem frameRoundTrip.softReset : frameRoundTrip.Statement .softReset := by
  intro op payload _ h
  simp only [commandPayload, Option.some.injEq, Prod.mk.injEq] at h
  obtain ⟨rfl, rfl⟩ := h
  simp [readCommand]

end Sys2Proof.Laws
end

