-- ==== Sys2Proof/Tests/Slice0.lean ====
section
/-! SUPPORT. Tests, each of one event on a small state, with results taken from the data book's tables and worked examples;
then, for each statement that has hypotheses, a witness that concrete states and operands meet them, clause by clause. -/

namespace Sys2Proof.Tests

-- One proof at a time: proofs in parallel wait for one another on threads of their own, each with its stack.
set_option Elab.async false

open Sys2Proof.Machine

/-! ## Small states -/

/-- The value of a field after a command, where the command answers a next state. -/
def after {α : Type} (c : Instr) (s : State) (f : State → α) : Option α :=
  match exec c s with
  | .next t => some (f t)
  | .fault _ => none
  | .refused _ => none

def aRead : Request := { master := 1, tag := 2, access := .read, addr := 0x40000, lanes := 0xF }
def aWrite : Request := { master := 1, tag := 3, access := .write 0xCAFE, addr := 0x40001, lanes := 0x3 }
def farRead : Request := { master := 5, tag := 2, access := .read, addr := 0x50000, lanes := 0xF }

def deciding (action : WindowAction) : Decision :=
  { window := some 3, action := action, cls := 2, deadlineCode := 1, deadlineAction := .fill, fill := 0xAB,
    readList := some 0, writeList := some 1 }

def entryOf (r : Request) (route : Route) (d : Option Decision) : Entry :=
  { req := r, route := route, decision := d, offset := some 1 }

def windowOfAction (action : WindowAction) : Window :=
  { valid := true, base := 0x00100000, exponent := 8, filter := .both, masters := 0xFF, action := action, cls := 2,
    deadlineCode := 1, deadlineAction := .fill, fill := 0xAB, readList := some 0, writeList := some 1, hits := 0xFFFF }

/-- Reset with one entry in use. -/
def withEntry (e : Entry) : State := { State.reset with entries := State.reset.entries.set 0 (some e), acceptOrder := [0] }

/-- Reset with one window valid over the line of aRead and aWrite. -/
def withWindow (action : WindowAction) : State :=
  { State.reset with windows := State.reset.windows.set 3 (windowOfAction action) }

def slotRecord (i : TransitIndex) (ctx : Option ContextIndex) : Slot :=
  { entry := i, heldSince := 0, deadline := some 4, how := .trapWindow, context := ctx }

/-- Entry 0 is a READ of class 2, HELD and WAITING, due at 4. -/
def holding : State :=
  { withEntry (entryOf aRead .held (some (deciding .trap))) with pool := [slotRecord 0 none] }

/-- Entry 0 is HELD and TAKEN in context 0 with ticket 1. -/
def serving (r : Request) : State :=
  { withEntry (entryOf r .held (some (deciding .trap))) with
    pool := [slotRecord 0 (some 0)]
    contexts := State.reset.contexts.set 0 (some { ticket := 1, entry := 0, cls := 2 })
    ticket := 1 }

/-- Entry 0 is TAKEN with two entries of its master and line BLOCKED behind it: a forward and a trap. -/
def chained : State :=
  { serving aRead with
    entries := ((serving aRead).entries.set 1 (some (entryOf aWrite .blocked (some Decision.unmatched)))).set 2
      (some (entryOf { aWrite with tag := 4 } .blocked (some (deciding .trap))))
    acceptOrder := [0, 1, 2]
    blocked := [1, 2] }

/-- An answer list over cells 0 and 1 and a capture list over cells 2 and 3, both armed. -/
def listing : State :=
  { withWindow .list with
    cells := [(0, { data := 0xA1, lanes := 0, master := 0, offset := 0 })]
    answerLists := State.reset.answerLists.set 0
      { first := 0, length := 2, exhaustion := .trap, reload := false, state := .armed, position := 0, remaining := 2 }
    captureLists := State.reset.captureLists.set 1
      { first := 2, length := 2, exhaustion := .trap, state := .armed, head := 0, count := 0 } }

/-- The link waits for the check byte of a frame with no payload. -/
def atCheckByte (op : Byte) : State := { State.reset with link := .receiving [op, 0x00] 0 }

/-! ## Well-formedness and decoding -/

theorem test_loadCells_of_no_word_is_ill_formed : (Instr.loadCells 0 []).wf = false := by decide
theorem test_loadCells_of_13_words_is_ill_formed : (Instr.loadCells 0 (List.replicate 13 0)).wf = false := by decide
theorem test_loadCells_of_12_words_is_well_formed : (Instr.loadCells 0 (List.replicate 12 0)).wf = true := by decide

/-- No row of the table has bits. -/
theorem test_table_words_spell_no_command : decodeTableWord 8 0x32 = none := by decide
theorem test_withFetchWord_of_no_command : State.reset.withFetchWord 8 0x32 = State.reset := by decide

/-- The RELEASE frame of the worked example of chapter 9. -/
theorem test_release_frame : commandFrame (.release 1 0x0123) = [0x32, 0x03, 0x01, 0x01, 0x23, 0xA6] := by decide
/-- STALE is the three bytes 10h, 00h, F0h (R176). -/
theorem test_stale_frame : responseFrame (replyOnly .stale) = [0x10, 0x00, 0xF0] := by decide
/-- SOFT RESET is opcode 6Fh with no payload (R175). -/
theorem test_reads_soft_reset : readCommand 0x6F [] = .command .softReset := by decide
theorem test_reads_bad_length : readCommand 0x6F [0] = .badLength := by decide
theorem test_reads_unknown_opcode : readCommand 0x62 [] = .unknownOp := by decide

/-! ## Events of the ports and of the timers -/

theorem test_head_request_is_presented : after (.headRequestPresented aRead) State.reset State.head = some (some aRead) := by
  decide
theorem test_gate_stalls_a_head_request :
    after (.headRequestPresented aRead) { State.reset with gate := .closed } State.stallReason = some .gate := by decide
theorem test_unmatched_request_is_forwarded :
    after .acceptance { State.reset with head := some aRead } State.issueQ = some [0] := by decide
/-- A saturated hit counter stays at 65,535 (R30). -/
theorem test_trap_holds_and_counts :
    after .acceptance { withWindow .trap with head := some aRead } (fun t => (t.pool, t.windows[(3 : Fin 24)].hits)) =
      some ([slotRecord 0 none], 0xFFFF) := by decide
theorem test_issue : after .issue
    { withEntry (entryOf aRead .issueWait none) with issueQ := [0] } (fun t => t.routeAt 0) = some (some .inMemory) := by
  decide
theorem test_memory_error_response : after (.memoryResponse 0 .error) (withEntry (entryOf aRead .inMemory none))
    (fun t => (t.presentedResponse.map Presented.ok, t.causes.memoryError.isSome)) = some (some false, true) := by decide
theorem test_response_to_a_free_entry_is_ignored :
    after (.memoryResponse 7 (.ok 1)) State.reset (fun t => decide (t = State.reset)) = some true := by decide
theorem test_host_take : after .hostTake
    { withEntry (entryOf aRead (.done (.okWord 5)) none) with respQ := [0] } (fun t => (t.entry 0, t.acceptOrder)) =
      some (none, []) := by decide
theorem test_host_reset_orphans : after .hostReset (withEntry (entryOf aRead .inMemory none))
    (fun t => (t.routeAt 0, t.causes.hostReset)) =
      some (some .orphan, some { occurrences := 1, detail := { held := 0, blocked := 0, orphaned := 1 } }) := by
  decide +kernel
theorem test_hreset_negation : after .hresetNegation { State.reset with hreset := true } State.hportLive = some true := by
  decide
theorem test_power_on_reset : after .powerOnReset holding (fun t => (t.pool, t.preset)) = some ([], true) := by decide
theorem test_preset_negation : after .presetNegation { State.reset with preset := true, now := 9 }
    (fun t => (t.preset, t.now)) = some (false, 0) := by decide
/-- A FILL expiry answers a READ with the fill word (R55). -/
theorem test_fill_expiry : after (.deadlineExpiry 0) { holding with now := 4 }
    (fun t => (t.routeAt 0, t.pool)) = some (some (.done (.okWord 0xAB)), []) := by decide
theorem test_no_expiry_before_its_time :
    after (.deadlineExpiry 0) { holding with now := 3 } (fun t => t.pool.length) = some 1 := by decide
theorem test_gap_timer : after .gapTimerExpiry { atCheckByte 0x01 with now := 1000 }
    (fun t => (t.link, t.causes.linkFault)) =
      some (.idle, some { occurrences := 1, detail := { kind := .gap, bytes := 2 } }) := by decide
theorem test_quiesce_completion : after .quiesceCompletion { State.reset with link := .executing 0 0 } State.link =
    some (.responding 0 [0x00, 0x03, 0x00, 0x00, 0x00, 0xFD] 0) := by decide
theorem test_quiesce_timeout :
    after .quiesceTimerExpiry { State.reset with link := .executing 0 0, now := 10000 } State.link =
      some (.responding 0 [0x30, 0x00, 0xD0] 0) := by decide

/-! ## The link and the framed commands -/

theorem test_frame_write_completes_a_frame : after (.frameWrite 0x91) (atCheckByte 0x6F) (fun t => t.link) =
    some (.responding 0 [0x00, 0x00, 0x00] 0) := by decide
theorem test_check_fail : after (.frameWrite 0x90) (atCheckByte 0x6F) State.link =
    some (.responding 0 [0x20, 0x00, 0xE0] 0) := by decide
theorem test_frame_read : after .frameRead { State.reset with link := .responding 0 [0x10, 0x00, 0xF0] 2 }
    (fun t => (t.sdOut, t.link)) = some (some 0xF0, .idle) := by decide
theorem test_status_read : ({ State.reset with gate := .closed }).statusRead = some 0x20 := by decide
theorem test_status_read_is_not_answered_under_preset : ({ State.reset with preset := true }).statusRead = none := by decide
theorem test_abort : after (.abort 0x01) { State.reset with link := .executing 0 0, gate := .closed }
    (fun t => (t.link, t.gate)) = some (.idle, .closed) := by decide
theorem test_abort_of_another_value : after (.abort 0x02) (atCheckByte 0x01) State.link =
    some (.receiving [0x01, 0x00] 0) := by decide
/-- The frame R182 spells for IDENTIFY. -/
theorem test_identify : after .identify State.reset State.link = some (.responding 0
    [0x00, 0x0C, 0x61, 0x40, 0x01, 0x18, 0x10, 0x08, 0x20, 0x04, 0x06, 0x02, 0x00, 0x08, 0xEE] 0) := by decide
theorem test_survey : after .survey holding State.link = some (.responding 0
    [0x00, 0x0A, 0x1F, 0x00, 0x00, 0x01, 0x00, 0x00, 0x00, 0x00, 0x00, 0x04, 0xD2] 0) := by decide

def image (base : Word) (e : Byte) : WindowImage :=
  { index := 23, base := base, exponent := e, control := 0x0B, masters := 0x01, cls := 5, deadlineCode := 15,
    deadlineAction := 0x02, fill := 0, readList := 0xFF, writeList := 0x07 }

/-- The examples of R34. -/
theorem test_write_window_adjusts : after (.writeWindow (image 0x00020010 8)) State.reset
    (fun t => (t.windows[(23 : Fin 24)].base, t.link)) = some (0x00020000, .responding 17 [0x01, 0x00, 0xFF] 0) := by decide
theorem test_write_window_unadjusted : after (.writeWindow (image 0x00020010 4)) State.reset
    (fun t => (t.windows[(23 : Fin 24)].base, t.link)) = some (0x00020010, .responding 17 [0x00, 0x00, 0x00] 0) := by decide
/-- The power-on entry as R177 encodes it. -/
theorem test_read_window : after (.readWindow 0 0) State.reset State.link = some (.responding 2
    [0x00, 0x13, 0, 0, 0, 0, 0, 2, 0, 0, 0, 0, 0, 0, 0, 0, 0, 0xFF, 0xFF, 0, 0, 0xED] 0) := by decide
theorem test_read_window_clears : after (.readWindow 3 1) (withWindow .pass) (fun t => t.windows[(3 : Fin 24)].hits) =
    some 0 := by decide
theorem test_set_arbitration_busy : after (.setArbitration 1 1 3 0 0) (serving aRead) (fun t => (t.arb, t.link)) =
    some (Arbitration.powerOn, .responding 5 [0x13, 0x00, 0xED] 0) := by decide
theorem test_set_arbitration : after (.setArbitration 1 0 3 0x21 0) (serving aRead) State.arb =
    some { order := .rotating, nesting := .nested, floor := 3, suppressed := 0x21, notifyOn := false } := by decide
/-- The power-on settings encode as 00h, 00h, 05h, 00h, 01h (R178). -/
theorem test_read_arbitration : after .readArbitration State.reset State.link = some (.responding 0
    [0x00, 0x0E, 0, 0, 5, 0, 1, 0, 0, 0, 0, 0, 0, 0, 0, 0, 0xEC] 0) := by decide
/-- The first ticket after power-on reset is 1, in context 0 (R100). -/
theorem test_take : after .take holding (fun t => (t.context 0, t.pool)) =
    some (some { ticket := 1, entry := 0, cls := 2 }, [slotRecord 0 (some 0)]) := by decide
theorem test_take_none : after .take (serving aRead) State.link = some (.responding 0 [0x02, 0x00, 0xFE] 0) := by decide
theorem test_peek_of_a_free_context : after (.peek 1) (serving aRead) State.link =
    some (.responding 1 [0x10, 0x00, 0xF0] 0) := by decide
theorem test_release_runs_the_walk : after (.release 0 1) chained
    (fun t => (t.issueQ, t.pool.map Slot.entry, t.blocked)) = some ([0, 1], [2], []) := by decide
theorem test_release_stale : after (.release 0 2) (serving aRead) (fun t => (t.pool.length, t.link)) =
    some (1, .responding 3 [0x10, 0x00, 0xF0] 0) := by decide
theorem test_release_with_data : after (.releaseWithData 0 1 0x0C 7) (serving aWrite)
    (fun t => t.presentedIssue) = some (some (0, { aWrite with access := .write 7, lanes := 0xC })) := by decide
theorem test_release_with_data_of_a_read : after (.releaseWithData 0 1 0x0C 7) (serving aRead) State.link =
    some (.responding 8 [0x11, 0x00, 0xEF] 0) := by decide
theorem test_answer : after (.answer 0 1 0x0C0D) (serving aRead) (fun t => t.presentedResponse) =
    some (some { master := 1, tag := 2, ok := true, data := 0x0C0D }) := by decide
theorem test_answer_absorbs_a_write : after (.answer 0 1 0x0C0D) (serving aWrite) (fun t => t.presentedResponse) =
    some (some { master := 1, tag := 3, ok := true, data := 0 }) := by decide
theorem test_refuse : after (.refuse 0 1) (serving aRead) (fun t => (t.routeAt 0, t.causes.refusal)) =
    some (some (.done .error), none) := by decide
/-- EXTEND with code 16 naming a FREE context is BAD_PARAM (R102). -/
theorem test_extend_bad_param : after (.extend 3 0 16) State.reset State.link =
    some (.responding 4 [0x12, 0x00, 0xEE] 0) := by decide
theorem test_extend : after (.extend 0 1 15) { serving aRead with now := 1 } (fun t => t.pool.map Slot.deadline) =
    some [some 65537] := by decide
theorem test_set_list : after (.setList 7 510 2 0x06) State.reset (fun t => t.captureLists[(3 : Fin 4)]) =
    some { first := 510, length := 2, exhaustion := .refuse, state := .idle, head := 0, count := 0 } := by decide
theorem test_set_list_past_the_end : after (.setList 7 511 2 0x06) State.reset State.link =
    some (.responding 6 [0x12, 0x00, 0xEE] 0) := by decide
theorem test_load_cells : after (.loadCells 510 [1, 2]) State.reset (fun t => (readCell t.cells 511).data) = some 2 := by
  decide
theorem test_load_cells_busy : after (.loadCells 1 [1]) listing State.link =
    some (.responding 6 [0x13, 0x00, 0xED] 0) := by decide
theorem test_arm_list_overlap : after (.armList 1) listing State.link = some (.responding 1 [0x14, 0x00, 0xEC] 0) := by
  decide
theorem test_arm_list : after (.armList 0) State.reset (fun t => (t.answerLists[(0 : Fin 4)].state,
    t.answerLists[(0 : Fin 4)].remaining)) = some (.armed, 1) := by decide
theorem test_disarm_list : after (.disarmList 0) listing (fun t => (t.answerLists[(0 : Fin 4)].state,
    t.answerLists[(0 : Fin 4)].remaining)) = some (.idle, 2) := by decide
theorem test_read_list : after (.readList 5) listing State.link = some (.responding 1
    [0x00, 0x0B, 5, 0, 2, 0, 2, 1, 1, 0, 0, 0, 0, 0xEA] 0) := by decide
theorem test_drain_capture_of_no_record : after (.drainCapture 5 8) listing State.link =
    some (.responding 2 [0x00, 0x01, 0x00, 0xFF] 0) := by decide
theorem test_drain_capture_of_an_answer_list : after (.drainCapture 0 1) listing State.link =
    some (.responding 2 [0x12, 0x00, 0xEE] 0) := by decide
theorem test_read_attention : after (.readAttention 7)
    { State.reset with causes := { Causes.clear with tagClash := some { occurrences := 3, detail := { master := 6, tag := 9 } } } }
    State.link = some (.responding 1 [0x00, 0x09, 7, 1, 3, 0, 0x80, 0, 0, 6, 9, 0x5D] 0) := by decide
theorem test_clear_attention : after (.clearAttention 0x0080)
    { State.reset with causes := { Causes.clear with tagClash := some { occurrences := 3, detail := { master := 6, tag := 9 } } } }
    (fun t => (t.causes, t.link)) =
      some (Causes.clear, .responding 2 [0x00, 0x0A, 0, 0, 0, 0, 0, 0, 0, 3, 0, 0, 0xF3] 0) := by decide
theorem test_set_attention_enable : after (.setAttentionEnable 0x03FF) State.reset (fun t => (t.enabled, t.link)) =
    some (0x3FF, .responding 2 [0x00, 0x02, 0x03, 0xFF, 0xFC] 0) := by decide
theorem test_gate_bad_param : after (.gate 2) State.reset (fun t => (t.gate, t.link)) =
    some (.opened, .responding 1 [0x12, 0x00, 0xEE] 0) := by decide
theorem test_gate_closes : after (.gate 1) State.reset State.gate = some .closed := by decide
/-- During QUIESCE with a stall on the closed gate the status byte reads 63h (R183). -/
theorem test_quiesce_status_byte : after .quiesce
    { withEntry (entryOf farRead .inMemory none) with head := some aRead } State.linkStatusByte = some 0x63 := by decide
theorem test_quiesce_at_once : after .quiesce State.reset (fun t => (t.gate, t.link)) =
    some (.closed, .responding 0 [0x00, 0x03, 0x00, 0x00, 0x00, 0xFD] 0) := by decide
theorem test_soft_reset : after .softReset chained (fun t => (t.respQ, t.issueQ, t.pool, t.blocked)) =
    some ([0], [1, 2], [], []) := by decide
theorem test_reads_take_successive_words :
    after .acceptance { listing with head := some aRead } (fun t => (t.routeAt 0, t.answerLists[(0 : Fin 4)].position)) =
      some (some (.done (.okWord 0xA1)), 1) := by decide

/-! ## Witnesses: the hypotheses of the statements are met, clause by clause -/

/-- A step that answers a next state. -/
def isNext (o : Out) : Bool :=
  match o with
  | .next _ => true
  | .fault _ => false
  | .refused _ => false

theorem next_of_isNext {o : Out} (h : isNext o = true) : ∃ t, o = .next t := by
  cases o with
  | next t => exact ⟨t, rfl⟩
  | fault r => cases h
  | refused r => cases h

def full : State := { State.reset with entries := Vector.replicate 32 (some (entryOf farRead .inMemory none)) }

/-- Eight entries BLOCKED behind one HELD entry of aRead's line. -/
def blockedFull : State :=
  { holding with blocked := [1, 2, 3, 4, 5, 6, 7, 8] }

/-- The window of aRead and a pool with no slot free. -/
def holdFull (action : WindowAction) : State :=
  { withWindow action with pool := List.replicate 16 (slotRecord 9 none) }

/-- Every list IDLE with this exhaustion action. -/
def exhausting (x : Exhaustion) (r : Request) : State :=
  { withEntry (entryOf r .issueWait (some (deciding .list))) with
    answerLists := Vector.replicate 4 { AnswerList.powerOn with exhaustion := x }
    captureLists := Vector.replicate 4 { CaptureList.powerOn with exhaustion := x } }

/-- The master, tag and line of aRead, from another requester's tag. -/
def sameLine : Request := { aRead with tag := 9 }

theorem witness_EmptyQueueStep :
    ({ State.reset with preset := true }).preset = true ∧
    ({ State.reset with head := some aRead }).acceptable ≠ none ∧
    (({ holding with now := 5 }).pending = [] ∧ ({ holding with now := 5 }).acceptable = none ∧
      ∃ sl ∈ holding.pool, ∃ t ∈ sl.deadline, t + 1 ≤ 5) ∧
    (∀ sl ∈ holding.pool, ∀ t ∈ sl.deadline, 4 ≤ t) ∧
    (∀ t ∈ (atCheckByte 1).gapDue, 1000 ≤ t) ∧
    (∀ t ∈ ({ State.reset with link := .executing 0 0 }).quiesceDue, 10000 ≤ t) ∧
    ((atCheckByte 1).acceptable = none ∧ (atCheckByte 1).gapDue = some 1000 ∧ 1000 + 1 ≤ 1001) ∧
    (({ State.reset with link := .executing 0 0 }).acceptable = none ∧
      ({ State.reset with link := .executing 0 0 }).quiesceDue = some 10000 ∧ 10000 + 1 ≤ 10001) := by decide

theorem witness_ResetInputsNegated :
    let s : State := { State.reset with preset := true, hreset := true }
    s.preset = true ∧ s.hreset = true ∧ s.PresetHolds ∧ State.reset.preset = false := by decide

theorem witness_HostResetEvent :
    holding.preset = false ∧ holding.hreset = false ∧
    ((withEntry (entryOf aRead .inMemory none)).entry 0).isSome ∧
    (withEntry (entryOf aRead .inMemory none)).routeAt 0 = some .inMemory ∧
    (withEntry (entryOf aRead .orphan none)).routeAt 0 = some .orphan ∧
    (holding.routeAt 0 ≠ some .inMemory ∧ holding.routeAt 0 ≠ some .orphan) ∧
    ({ holding with link := .executing 0 0, gate := .closed }).link = .executing 0 0 ∧
    (∀ i, holding.routeAt i ≠ some .inMemory ∧ holding.routeAt i ≠ some .orphan) ∧
    ({ State.reset with preset := true }).preset = true ∧ ({ State.reset with hreset := true }).hreset = true := by decide

theorem witness_HeadRequestPresented :
    State.reset.head = none ∧ State.reset.hportLive = true ∧ State.reset.obstacle aRead = .none ∧
    ({ State.reset with gate := .closed }).obstacle aRead = .gate ∧ full.obstacle aRead = .transit ∧
    (holdFull .trap).obstacle aRead = .hold ∧ blockedFull.obstacle sameLine = .block ∧
    (∀ s ∈ [{ State.reset with gate := .closed }, full, holdFull .trap, blockedFull],
      State.head s = none ∧ State.hportLive s = true) ∧
    ({ State.reset with head := some aRead }).head ≠ none ∧ ({ State.reset with hreset := true }).hportLive = false := by
  decide

/-- Each stall reason, and each boundary on the other side of it. -/
theorem witness_StallReasonOrder :
    let on : State → StallReason := fun s => ({ s with head := some sameLine }).stallReason
    on { State.reset with gate := .closed } = .gate ∧ on full = .transit ∧ on blockedFull = .block ∧
    on { holding with blocked := [1, 2, 3, 4, 5, 6, 7] } = .none ∧ on (holdFull .trap) = .hold ∧
    on { withWindow .trap with pool := List.replicate 15 (slotRecord 9 none) } = .none ∧
    State.reset.head = none ∧ ({ State.reset with preset := true }).hportLive = false := by decide

theorem witness_ProspectiveOutcome :
    holding.prospect aRead = .clash ∧ holding.prospect sameLine = .blocked ∧ (withWindow .trap).prospect aRead = .hold ∧
    { exhausting .trap aRead with windows := (withWindow .list).windows }.prospect sameLine = .hold ∧
    { exhausting .trap aRead with windows := (withWindow .list).windows }.prospect aWrite = .hold ∧
    State.reset.prospect aRead = .direct := by decide

/-- First and last word of the window's range, the words before and after it, and both ends of its hit counter. -/
theorem witness_WindowSelection :
    (withWindow .list).selectWindow aRead = some 3 ∧ (withWindow .list).selectWindow { aRead with addr := 0x4003F } = some 3 ∧
    (withWindow .list).selectWindow { aRead with addr := 0x3FFFF } = none ∧
    (withWindow .list).selectWindow { aRead with addr := 0x40040 } = none ∧
    (withWindow .pass).windows[(3 : WindowIndex)].hits = 0xFFFF ∧ (withWindow .pass).selectWindow aRead = some 3 ∧
    (withWindow .list).windows[(3 : WindowIndex)].action = .list ∧ (withWindow .list).WindowsAligned ∧
    (withWindow .pass).windows[(3 : WindowIndex)].action ≠ .list := by decide

theorem witness_AcceptanceTakesTheLowestFreeEntry :
    ({ holding with head := some farRead }).acceptable = some farRead ∧ ({ holding with head := some farRead }).quiesceDue = none ∧
    State.reset.acceptable = none := by decide

theorem linkSound_of_idle {s : State} (h : s.link = .idle) : s.LinkSound := by
  unfold State.LinkSound
  rw [h]
  trivial

theorem witness_AcceptanceOfAClashOrALineBlockedRequest :
    (∀ r ∈ [aRead, sameLine], ({ holding with head := some r }).LinkSound ∧
      ({ holding with head := some r }).acceptable = some r ∧ holding.IsLowestFree 1) ∧
    holding.prospect aRead = .clash ∧ holding.prospect sameLine = .blocked :=
  ⟨fun r h => ⟨linkSound_of_idle rfl, by revert r; decide, by decide⟩, by decide, by decide⟩

theorem witness_AcceptanceCarriesOutTheDecision :
    (∀ a ∈ [WindowAction.pass, .refuse, .trap, .list],
      ({ withWindow a with head := some aRead }).acceptable = some aRead ∧ (withWindow a).IsLowestFree 0 ∧
      ((withWindow a).prospect aRead = .direct ∨ (withWindow a).prospect aRead = .hold) ∧
      ((withWindow a).decisionFor aRead).action = a) ∧
    ((withWindow .trap).decisionFor aRead).deadlineCode ≠ 0 ∧ ({ withWindow .trap with head := some aRead }).LinkSound :=
  ⟨by decide, by decide, linkSound_of_idle rfl⟩

/-- Remaining 2, then 1 with reload and without. -/
theorem witness_ArmedListServes_read :
    let e := entryOf aRead .issueWait (some (deciding .list))
    let list : Nat → Bool → AnswerList := fun n reload =>
      { first := 510, length := 2, exhaustion := .pass, reload := reload, state := .armed, position := 512 - n, remaining := n }
    let s : Nat → Bool → State := fun n reload =>
      { withEntry e with answerLists := State.reset.answerLists.set 0 (list n reload) }
    ∀ x ∈ [(2, false), (1, true), (1, false)],
      (s x.1 x.2).entry 0 = some e ∧ e.decision = some (deciding .list) ∧ (deciding .list).action = .list ∧
      e.req.access = .read ∧ (deciding .list).readList = some 0 ∧ (s x.1 x.2).answerLists[(0 : ListOrdinal)] = list x.1 x.2 ∧
      (list x.1 x.2).state = .armed ∧ (list x.1 x.2).Ok := by decide

/-- Count 0 of 2, and count 1 of 2 with the head at the last cell, so that the record wraps. -/
theorem witness_ArmedListServes_write :
    let e := entryOf aWrite .issueWait (some (deciding .list))
    let list : Nat → Nat → CaptureList := fun head count =>
      { first := 510, length := 2, exhaustion := .pass, state := .armed, head := head, count := count }
    let s : Nat → Nat → State := fun head count =>
      { withEntry e with captureLists := State.reset.captureLists.set 1 (list head count) }
    ∀ x ∈ [(0, 0), (1, 1)],
      (s x.1 x.2).entry 0 = some e ∧ e.decision = some (deciding .list) ∧ (deciding .list).action = .list ∧
      e.req.access = .write 0xCAFE ∧
      (deciding .list).writeList = some 1 ∧ e.offset = some 1 ∧
      (s x.1 x.2).captureLists[(1 : ListOrdinal)] = list x.1 x.2 ∧ (list x.1 x.2).state = .armed ∧ (list x.1 x.2).Ok ∧
      cellsWf (s x.1 x.2).cells = true := by decide

theorem witness_DecisionCarriedOut :
    (∀ a ∈ [WindowAction.pass, .refuse, .trap, .list],
      (withEntry (entryOf aRead .blocked (some (deciding a)))).entry 0 = some (entryOf aRead .blocked (some (deciding a))) ∧
      (deciding a).action = a) ∧
    (∀ x ∈ [Exhaustion.pass, .trap, .refuse], ∀ r ∈ [aRead, aWrite],
      ((exhausting x r).entry 0).isSome ∧ (deciding .list).readList = some 0 ∧ (deciding .list).writeList = some 1 ∧
      (exhausting x r).answerLists[(0 : ListOrdinal)].state ≠ .armed ∧
      (exhausting x r).captureLists[(1 : ListOrdinal)].state ≠ .armed ∧
      (exhausting x r).answerLists[(0 : ListOrdinal)].exhaustion = x ∧
      (exhausting x r).captureLists[(1 : ListOrdinal)].exhaustion = x) ∧
    ({ deciding .list with readList := none, writeList := none }).readList = none ∧ aRead.access = .read ∧
    aWrite.access ≠ .read := by decide

theorem witness_IssueTakesTheHeadOfTheIssueQueue :
    let e := entryOf aRead .issueWait none
    let s : State := { withEntry e with issueQ := [0] }
    s.preset = false ∧ s.Settled ∧ s.issueQ = [0] ∧ s.entry 0 = some e ∧ e.route = .issueWait ∧
    State.reset.issueQ = [] := by decide

theorem witness_MemoryResponseByRouteState :
    (∀ r ∈ [aRead, aWrite], (withEntry (entryOf r .inMemory none)).entry 0 = some (entryOf r .inMemory none)) ∧
    (withEntry (entryOf aRead .orphan none)).routeAt 0 = some .orphan ∧
    holding.routeAt 0 ≠ some .inMemory ∧ holding.routeAt 0 ≠ some .orphan ∧ aRead.access = .read ∧
    aWrite.access ≠ .read := by decide

theorem witness_HostTakeFreesTheHeadResponse :
    (∀ r ∈ [Response.ok, .okWord 5, .error],
      let s : State := { withEntry (entryOf aRead (.done r) none) with respQ := [0] }
      s.hportLive = true ∧ s.respQ = [0] ∧ s.entry 0 = some (entryOf aRead (.done r) none)) ∧
    ({ State.reset with hreset := true }).hportLive = false ∧ State.reset.respQ = [] := by decide

theorem witness_EndOfEventTests :
    let quiescing : State := { holding with link := .executing 0 0, gate := .closed }
    quiescing.link = .executing 0 0 ∧
    (∀ i, quiescing.routeAt i ≠ some .issueWait ∧ quiescing.routeAt i ≠ some .inMemory ∧
      quiescing.routeAt i ≠ some .orphan) ∧
    State.reset.quiesceDue = none ∧ (withEntry (entryOf aRead .orphan none)).routeAt 0 = some .orphan ∧
    (∃ t, exec .quiesceCompletion quiescing = .next t) ∧
    (∀ x ∈ [(full, StallReason.transit), (holdFull .trap, .hold), (blockedFull, .block),
        ({ State.reset with gate := .closed }, .gate), (State.reset, .none)],
      ({ x.1 with head := some sameLine }).stallReason = x.2 ∧ State.episode x.1 = false) :=
  ⟨rfl, by decide, rfl, by decide, next_of_isNext (by decide), by decide⟩

/-- The deadline at its time, with each deadline action and both kinds; and one tick before it. -/
theorem witness_DeadlineExpiryDeparts :
    (∀ a ∈ [DeadlineAction.release, .refuse, .fill], ∀ r ∈ [aRead, aWrite],
      let d : Decision := { deciding .trap with deadlineAction := a }
      let s : State := { withEntry (entryOf r .held (some d)) with pool := [slotRecord 0 (some 0)], now := 4 }
      s.slotOf 0 = some (slotRecord 0 (some 0)) ∧ s.entry 0 = some (entryOf r .held (some d)) ∧
      (slotRecord 0 (some 0)).deadline = some 4 ∧ 4 ≤ s.now) ∧
    (holding.slotOf 0 = some (slotRecord 0 none) ∧ ∀ t ∈ (slotRecord 0 none).deadline, 3 < t) ∧
    State.reset.slotOf 0 = none := by decide

theorem witness_DepartureWithoutSuccessors :
    (serving aRead).entry (slotRecord 0 (some 0)).entry = some (entryOf aRead .held (some (deciding .trap))) ∧
    (∀ j ∈ (serving aRead).blocked, (serving aRead).chainOf j ≠ some (aRead.master, lineOf aRead.addr)) ∧
    (∀ j ∈ chained.blocked, chained.chainOf j ≠ some (aRead.master, lineOf farRead.addr)) := by decide

theorem chained_consistent : chained.Consistent :=
  ⟨by decide, by decide, by decide, by decide, by decide⟩

/-- The walk of RELEASE: the forward leaves the blocked list, the trap takes the slot. -/
theorem witness_DepartureRunsTheWalk :
    chained.Consistent ∧ slotRecord 0 (some 0) ∈ chained.pool ∧
    chained.entry (slotRecord 0 (some 0)).entry = some (entryOf aRead .held (some (deciding .trap))) ∧
    (chained.depart (slotRecord 0 (some 0)) (entryOf aRead .held (some (deciding .trap))) .issue).issueQ = [0, 1] :=
  ⟨chained_consistent, by decide, by decide, by decide⟩

theorem witness_LinkTimersExpire :
    ({ atCheckByte 1 with now := 1000 }).link = .receiving [1, 0] 0 ∧
    (∀ t ∈ ({ atCheckByte 1 with now := 999 }).gapDue, 999 < t) ∧
    ({ State.reset with link := .discarding 0, now := 1000 }).link = .discarding 0 ∧
    (0 + 1000 ≤ 1000 ∧ 999 < 0 + 1000 ∧ 0 + 10000 ≤ 10000 ∧ 9999 < 0 + 10000) ∧
    ({ State.reset with link := .executing 0 0, now := 10000 }).link = .executing 0 0 := by decide

theorem witness_FrameWriteByLinkState :
    ({ State.reset with preset := true }).preset = true ∧ State.reset.link = .idle ∧ State.reset.preset = false ∧
    ({ State.reset with link := .receiving [0x50] 0 }).link = .receiving [0x50] 0 ∧
    80 < (81 : Byte).toNat ∧ (80 : Byte).toNat ≤ 80 ∧
    ({ State.reset with link := .receiving [0x50, 1] 0 }).link = .receiving (0x50 :: 1 :: []) 0 ∧
    ([] : List Byte).length < (1 : Byte).toNat ∧ ({ State.reset with link := .discarding 7 }).link = .discarding 7 := by decide

theorem witness_WriteWhileBusy :
    let a : State := { State.reset with link := .executing 0 0 }
    let b : State := { State.reset with link := .responding 17 [0x01, 0x00, 0xFF] 2 }
    a.preset = false ∧ a.link = .executing 0 0 ∧ b.preset = false ∧ b.link = .responding 17 [0x01, 0x00, 0xFF] 2 ∧
    a.causes.linkFault = none ∧ ([0, 0] : List Byte) ≠ [] := by decide

theorem witness_FailedExamination :
    (∀ op ∈ [(0x01 : Byte), 0x62], (atCheckByte op).link = .receiving (op :: 0 :: []) 0) ∧
    ([] : List Byte).length = (0 : Byte).toNat ∧ bytesSum [0x01, 0, 0x00] ≠ 0 ∧
    bytesSum [0x62, 0, 0x9E] = 0 ∧ readCommand 0x62 [] = .unknownOp ∧
    bytesSum [0x31, 0, 0xCF] = 0 ∧ readCommand 0x31 [] = .badLength ∧
    bytesSum [0x01, 0, 0xFF] = 0 ∧ readCommand 0x01 [] = .command .identify := by decide

theorem witness_FramesAndCommandsAgree :
    (Instr.loadCells 0 (List.replicate 12 0)).wf = true ∧ (commandPayload (.loadCells 0 (List.replicate 12 0))).isSome = true ∧
    (Instr.loadCells 511 [7]).wf = true ∧ (commandPayload (.loadCells 511 [7])).isSome = true ∧
    commandPayload .softReset = some (0x6F, []) ∧ readCommand 0x6F [] = .command .softReset := by decide

theorem witness_CommandEqualsItsFrame :
    (Instr.release 1 0x0123).wf = true ∧ commandPayload (.release 1 0x0123) ≠ none := by decide

theorem witness_FrameReadAndAbort :
    let s : Nat → State := fun n => { State.reset with link := .responding 3 [0x10, 0x00, 0xF0] n }
    (∀ n ∈ [0, 1, 2], (s n).preset = false ∧ (s n).link = .responding 3 [0x10, 0x00, 0xF0] n ∧
      n < [0x10, 0x00, (0xF0 : Byte)].length) ∧
    State.reset.preset = false ∧ ({ State.reset with preset := true }).preset = true ∧ (0x00 : Byte) ≠ 0x01 := by decide

theorem witness_FrameReadAndAbort_no_response : ∀ L frame taken, State.reset.link ≠ .responding L frame taken := by
  intro L frame taken h
  cases h

theorem witness_StatusByteLayout :
    let s : State := { withEntry (entryOf farRead .inMemory none) with
      head := some aRead, gate := .closed, link := .executing 0 0 }
    s.link = .executing 0 0 ∧ s.stallReason = .gate ∧ s.notify = false ∧ s.attn = false ∧ (0x00 : Byte) ≠ 0x01 ∧
    isNext (exec .powerOnReset holding) = true := by decide

theorem witness_IdentifyFrame_and_SurveyCounts : chained.LinkReady ∧ State.reset.LinkReady := by decide

/-- A payload at the bounds of R31, and payloads one beyond them. -/
theorem witness_WriteWindowReplacesTheWindow :
    (windowOf (image 0x00020010 31)).isSome = true ∧ (windowOf (image 0x00020010 2)).isSome = true ∧
    (∀ w ∈ [image 0 1, image 0 32, { image 0 8 with index := 24 }, { image 0 8 with control := 0x06 },
        { image 0 8 with cls := 6 }, { image 0 8 with deadlineCode := 16 }, { image 0 8 with deadlineAction := 3 },
        { image 0 8 with readList := 4 }, { image 0 8 with writeList := 3 }, { image 0 13 with control := 0x19 }],
      after (.writeWindow w) State.reset State.link = some (.responding 17 [0x12, 0x00, 0xEE] 0)) ∧ State.reset.LinkReady := by decide

theorem witness_ReadWindowReturnsTheEntry :
    24 ≤ (24 : Byte).toNat ∧ 2 ≤ (2 : Byte).toNat ∧ (23 : WindowIndex).val = (23 : Byte).toNat ∧
    (windowOf (image 0x00020010 8)).isSome = true ∧ (image 0x00020010 8).index.toNat = 23 ∧ State.reset.LinkReady := by decide

theorem witness_SetArbitrationOutcomes :
    (serving aRead).LinkReady ∧ (serving aRead).context 0 ≠ none ∧ (1 : Byte) ≠ nestingCode (serving aRead).arb.nesting ∧
    (0 : Byte) = nestingCode (serving aRead).arb.nesting ∧ (∀ c, holding.context c = none) ∧ holding.LinkReady ∧
    ((5 : Byte).toNat ≤ 5 ∧ (63 : Byte).toNat < 64 ∧ ¬ (6 : Byte).toNat ≤ 5 ∧ ¬ (64 : Byte).toNat < 64) := by decide

theorem witness_ReadingCommandsChangeNothing :
    (serving aRead).LinkReady ∧ 4 ≤ (4 : Byte).toNat ∧ (serving aRead).context 3 = none ∧ (3 : ContextIndex).val = (3 : Byte).toNat ∧
    (serving aRead).context 0 = some { ticket := 1, entry := 0, cls := 2 } ∧
    (serving aRead).slotOf 0 = some (slotRecord 0 (some 0)) ∧
    (serving aRead).entry 0 = some (entryOf aRead .held (some (deciding .trap))) ∧
    8 ≤ (8 : Byte).toNat ∧ (3 : ListOrdinal).val = (3 : Byte).toNat ∧ 4 + (3 : ListOrdinal).val = (7 : Byte).toNat ∧
    10 ≤ (10 : Byte).toNat ∧ (Causes.clear.views[(9 : Byte).toNat]?).isSome = true := by decide

theorem witness_TakeOpensAContext :
    holding.LinkReady ∧ holding.context 0 = none ∧ (∀ c' < (0 : ContextIndex), holding.context c' ≠ none) ∧
    (slotRecord 0 none ∈ holding.pool ∧ (slotRecord 0 none).context = none ∧ holding.classOf 0 = some 2 ∧
      holding.classEligible 2 = true) := by decide

def allOpen : State :=
  { serving aRead with contexts := Vector.replicate 4 (some { ticket := 1, entry := 0, cls := 2 }) }

/-- A WAITING record of class 2 while a context of class 2 is OPEN. -/
def behindAContext : State := { serving aRead with pool := [slotRecord 0 none] }

theorem witness_TakeWithNothingToTake :
    (∀ c, allOpen.context c ≠ none) ∧ allOpen.LinkReady ∧ State.reset.LinkReady ∧ (serving aRead).LinkReady ∧
    (∀ sl ∈ (serving aRead).pool, sl.context ≠ none) ∧ (∃ c, (serving aRead).context c = none) ∧
    (∀ sl ∈ holding.pool, ∀ k, holding.classOf sl.entry = some k →
      ({ holding with arb := { Arbitration.powerOn with suppressed := 0x04 } }).arb.suppressed.getLsbD k.val = true ∧
      ({ holding with arb := { Arbitration.powerOn with suppressed := 0x04 } }).classEligible k = false) ∧
    behindAContext.arb.nesting = .nested ∧ (∃ c, behindAContext.context c = none) ∧ behindAContext.LinkReady ∧
    (∀ sl ∈ behindAContext.pool, ∀ k, behindAContext.classOf sl.entry = some k →
      ∃ c, ∃ o ∈ behindAContext.context c, rank behindAContext.arb.floor o.cls ≤ rank behindAContext.arb.floor k) := by decide

theorem witness_NotifyMeansTakeSucceeds :
    holding.LinkReady ∧ holding.arb.notifyOn = true ∧ holding.notify = true ∧ (serving aRead).notify = false := by decide

theorem witness_DispositionsTurnedAway :
    State.reset.LinkReady ∧ 4 ≤ (4 : Byte).toNat ∧ 16 ≤ (16 : Byte).toNat ∧ State.reset.context 3 = none ∧
    (∀ o ∈ (serving aRead).context 0, o.ticket ≠ 2) ∧ (serving aRead).LinkReady ∧ (15 : Byte) ≠ 0 ∧ (15 : Byte).toNat < 16 ∧
    (serving aRead).context 0 = some { ticket := 1, entry := 0, cls := 2 } ∧
    (serving aRead).slotOf 0 = some (slotRecord 0 (some 0)) ∧
    (serving aRead).entry 0 = some (entryOf aRead .held (some (deciding .trap))) ∧ aRead.access = .read := by decide

theorem witness_DispositionsCarriedOut :
    (∀ r ∈ [aRead, aWrite], (serving r).LinkReady ∧ (0 : ContextIndex).val = (0 : Byte).toNat ∧
      (serving r).context 0 = some { ticket := 1, entry := 0, cls := 2 } ∧
      (serving r).slotOf 0 = some (slotRecord 0 (some 0)) ∧
      (serving r).entry 0 = some (entryOf r .held (some (deciding .trap)))) ∧
    aRead.access = .read ∧ aWrite.access = .write 0xCAFE ∧ (1 : Byte) ≠ 0 ∧ (15 : Byte).toNat < 16 := by decide

theorem witness_SetListWritesTheDescriptor :
    State.reset.LinkReady ∧ listing.LinkReady ∧ listing.answerLists[(0 : ListOrdinal)].state ≠ .idle ∧
    listing.captureLists[(1 : ListOrdinal)].state ≠ .idle ∧ State.reset.answerLists[(3 : ListOrdinal)].state = .idle ∧
    State.reset.captureLists[(3 : ListOrdinal)].state = .idle ∧
    (1 ≤ (1 : Half).toNat ∧ (511 : Half).toNat + (1 : Half).toNat ≤ 512 ∧ (6 : Byte).toNat < 8 ∧
      ((6 : Byte).extractLsb' 0 2).toNat ≤ 2) ∧
    (¬ (512 : Half).toNat + (1 : Half).toNat ≤ 512 ∧ ¬ ((7 : Byte).extractLsb' 0 2).toNat ≤ 2) ∧
    (3 : ListOrdinal).val = (3 : Byte).toNat ∧ 4 + (3 : ListOrdinal).val = (7 : Byte).toNat := by decide

/-- Runs of 1 and 12 words at the end of list memory; a run that meets an engaged area and the one just past it. -/
theorem witness_LoadCellsWritesTheRun :
    listing.LinkReady ∧ 512 < (511 : Half).toNat + 2 ∧ (500 : Half).toNat + 12 ≤ 512 ∧
    ¬ listing.ClearOfEngaged (3 : Half).toNat 1 ∧ listing.ClearOfEngaged (4 : Half).toNat 12 ∧ cellsWf listing.cells = true ∧
    (List.replicate 13 (0 : Word)).length = 13 ∧ (List.replicate 19 (0 : Word)).length = 19 ∧
    (List.replicate 20 (0 : Word)).length = 20 ∧ (List.replicate 63 (0 : Word)).length = 63 ∧
    64 ≤ (List.replicate 64 (0 : Word)).length := by decide

theorem witness_ArmAndDisarmList :
    listing.LinkReady ∧ listing.answerLists[(0 : ListOrdinal)].state ≠ .idle ∧
    listing.answerLists[(1 : ListOrdinal)].state = .idle ∧ ¬ listing.ClearOfEngaged 0 1 ∧
    listing.captureLists[(1 : ListOrdinal)].state ≠ .idle ∧ listing.captureLists[(0 : ListOrdinal)].state = .idle ∧
    State.reset.LinkReady ∧ State.reset.ClearOfEngaged 0 1 ∧
    State.reset.captureLists[(3 : ListOrdinal)].count ≠ State.reset.captureLists[(3 : ListOrdinal)].length ∧
    (let c : CaptureList := { CaptureList.powerOn with count := 1 }
     let s : State := { State.reset with captureLists := State.reset.captureLists.set 3 c }
     s.LinkReady ∧ s.ClearOfEngaged c.first c.length ∧ s.captureLists[(3 : ListOrdinal)].state = .idle ∧ c.count = c.length) ∧
    8 ≤ (8 : Byte).toNat ∧ (3 : ListOrdinal).val = (3 : Byte).toNat ∧ 4 + (0 : ListOrdinal).val = (4 : Byte).toNat := by decide

theorem witness_DrainCaptureRemovesRecords :
    listing.LinkReady ∧ (3 : Byte).toNat < 4 ∧ 8 ≤ (8 : Byte).toNat ∧ 9 ≤ (9 : Byte).toNat ∧
    4 + (1 : ListOrdinal).val = (5 : Byte).toNat ∧ 1 ≤ (1 : Byte).toNat ∧ (8 : Byte).toNat ≤ 8 ∧
    listing.captureLists[(1 : ListOrdinal)].count = 0 ∧
    (let c : CaptureList := { first := 2, length := 2, exhaustion := .trap, state := .full, head := 1, count := 2 }
     let s : State := { State.reset with captureLists := State.reset.captureLists.set 3 c }
     s.LinkReady ∧ c.Ok ∧ 1 ≤ s.captureLists[(3 : ListOrdinal)].count) := by decide

theorem witness_PostingAndAttn :
    ({ occurrences := 254, detail := () } : CauseRecord Unit).occurrences < 255 ∧
    255 ≤ ({ occurrences := 255, detail := () } : CauseRecord Unit).occurrences := by decide

theorem witness_ClearAttention_and_SetAttentionEnable :
    State.reset.LinkReady ∧ 1024 ≤ (1024 : Half).toNat ∧ (1023 : Half).toNat < 1024 := by decide

theorem witness_GateAndQuiesce :
    State.reset.LinkReady ∧ 2 ≤ (2 : Byte).toNat ∧ holding.LinkReady ∧
    (∀ i, holding.routeAt i ≠ some .issueWait ∧ holding.routeAt i ≠ some .inMemory ∧ holding.routeAt i ≠ some .orphan) ∧
    (withEntry (entryOf aRead .inMemory none)).LinkReady ∧
    (withEntry (entryOf aRead .inMemory none)).routeAt 0 = some .inMemory := by decide

theorem witness_SoftResetEvent :
    chained.LinkReady ∧ chained.routeAt 0 = some .held ∧ chained.routeAt 1 = some .blocked ∧ chained.routeAt 3 = none := by
  decide

/-- A state in the middle of its work meets every invariant, and a step from it answers a next state. -/
theorem witness_invariants :
    let s : State := { chained with pending := [.release 0 1] }
    s.Consistent ∧ s.NestedDistinct ∧ s.WindowsAligned ∧ s.OccurrencesInRange ∧ s.ListsSound ∧ s.TimersTimely ∧
    s.LinkSound ∧ s.Settled ∧ s.PresetHolds ∧ ∃ t, step s = .next t := by
  refine ⟨⟨by decide, by decide, by decide, by decide, by decide⟩, by decide, by decide, by unfold State.OccurrencesInRange; decide,
    by unfold State.ListsSound; decide, by unfold State.TimersTimely; decide, linkSound_of_idle rfl, by decide, by decide,
    next_of_isNext (by decide)⟩

theorem witness_StepKeepsTheLinkSound :
    let s : State := { State.reset with link := .receiving [0x6F, 0x00] 0, pending := [.frameWrite 0x91] }
    s.LinkSound ∧ ∃ t, step s = .next t :=
  ⟨by unfold State.LinkSound; decide, next_of_isNext (by decide)⟩

theorem witness_StepKeepsPowerOnValuesUnderPreset :
    let s : State := { State.reset with preset := true, pending := [.frameWrite 0x91] }
    s.PresetHolds ∧ ∃ t, step s = .next t :=
  ⟨by decide, next_of_isNext (by decide)⟩

/-- SOFT RESET changes the decision of a BLOCKED entry, which is in use before and after; its frame's check byte does so too. -/
theorem witness_DecisionsChangeOnlyAtSoftReset :
    let s : State := { chained with pending := [.softReset] }
    (∃ t, step s = .next t) ∧ (s.entry 2).isSome = true ∧
    after .softReset chained (fun t => (t.entry 2).map Entry.decision) = some (some (some Decision.unmatched)) ∧
    after (.frameWrite 0x91) { chained with link := .receiving [0x6F, 0x00] 0 } (fun t => (t.entry 2).map Entry.decision) =
      some (some (some Decision.unmatched)) :=
  ⟨next_of_isNext (by decide +kernel), by decide, by decide +kernel, by decide +kernel⟩

end Sys2Proof.Tests
end

namespace Sys2Proof.Machine

-- One proof at a time: proofs in parallel wait for one another on threads of their own, each with its stack.
set_option Elab.async false

/-! ### The stored fields, and what a step may do to them -/

/-- The tables that keep stored fields: the window table (R23), the cause records (R140) and list memory with its
descriptors (R121, R123). -/
structure Stored where
  windows      : Vector Window 24
  causes       : Causes
  cells        : List (Nat × Cell)
  answerLists  : Vector AnswerList 4
  captureLists : Vector CaptureList 4

/-- The stored fields of a state. -/
def State.stored (s : State) : Stored :=
  { windows := s.windows, causes := s.causes, cells := s.cells, answerLists := s.answerLists,
    captureLists := s.captureLists }

/-- The areas of the engaged lists (R124). -/
def Stored.engagedAreas (a : Stored) : List (Nat × Nat) :=
  ((a.answerLists.toList.filter fun l => decide (l.state ≠ .idle)).map AnswerList.area) ++
  ((a.captureLists.toList.filter fun l => decide (l.state ≠ .idle)).map CaptureList.area)

theorem State.engagedAreas_stored (s : State) : s.stored.engagedAreas = s.engagedAreas := rfl

/-- What may become of one window: a new hit count (R30, R36), or its replacement by WRITE WINDOW (R32). -/
inductive Window.Move (w : Window) : Window → Prop
  | counted (n : BitVec 16) : Window.Move w { w with hits := n }
  | written {image : WindowImage} {w' : Window} : windowOf image = some w' → Window.Move w w'

/-- What may become of one cause record: nothing, a clear (R150), or one posting (R141). -/
inductive RecordMove {α : Type} (r : Option (CauseRecord α)) : Option (CauseRecord α) → Prop
  | kept : RecordMove r r
  | cleared : RecordMove r none
  | posted (d : α) : RecordMove r (post r d)

/-- What may become of the ten cause records at once; a record not named is kept. -/
structure Causes.Move (c c' : Causes) : Prop where
  deadline    : RecordMove c.deadline c'.deadline := by exact .kept
  holdFull    : RecordMove c.holdFull c'.holdFull := by exact .kept
  blockFull   : RecordMove c.blockFull c'.blockFull := by exact .kept
  answerOut   : RecordMove c.answerOut c'.answerOut := by exact .kept
  captureFull : RecordMove c.captureFull c'.captureFull := by exact .kept
  refusal     : RecordMove c.refusal c'.refusal := by exact .kept
  memoryError : RecordMove c.memoryError c'.memoryError := by exact .kept
  tagClash    : RecordMove c.tagClash c'.tagClash := by exact .kept
  linkFault   : RecordMove c.linkFault c'.linkFault := by exact .kept
  hostReset   : RecordMove c.hostReset c'.hostReset := by exact .kept

/-- What may become of one answer list among engaged areas `engaged`: a word given (R130), SET LIST (R125), ARM (R126) or
DISARM (R127). -/
inductive AnswerList.Move (engaged : List (Nat × Nat)) (l : AnswerList) : AnswerList → Prop
  | advanced : l.state = .armed → AnswerList.Move engaged l l.advance
  | written {first length : Nat} (x : Exhaustion) (reload : Bool) : areaOk first length = true →
      AnswerList.Move engaged l { first := first, length := length, exhaustion := x, reload := reload, state := .idle,
                                  position := first, remaining := 0 }
  | armed : (∀ b ∈ engaged, areasMeet l.area b = false) →
      AnswerList.Move engaged l { l with state := .armed, position := l.first, remaining := l.length }
  | disarmed : AnswerList.Move engaged l { l with state := .idle }

/-- What may become of one capture list: a record taken (R131), SET LIST (R125), ARM (R126), records drained (R132) or
DISARM (R127). -/
inductive CaptureList.Move (engaged : List (Nat × Nat)) (l : CaptureList) : CaptureList → Prop
  | advanced : l.state = .armed → CaptureList.Move engaged l l.advance
  | written {first length : Nat} (x : Exhaustion) : areaOk first length = true →
      CaptureList.Move engaged l { first := first, length := length, exhaustion := x, state := .idle, head := 0,
                                   count := 0 }
  | armed : (∀ b ∈ engaged, areasMeet l.area b = false) → CaptureList.Move engaged l l.armed
  | drained (m : Nat) : CaptureList.Move engaged l (l.drained m)
  | disarmed : CaptureList.Move engaged l { l with state := .idle }

/-- The stored fields that a run of moves leads to. Each constructor adds one move; `stored_step` says that a step of the
part is such a run. -/
inductive Stored.Reach (a : Stored) : Stored → Prop
  | refl : a.Reach a
  | powerOn : a.Reach State.reset.stored
  | window {b : Stored} {i : WindowIndex} {w : Window} : a.Reach b → Window.Move b.windows[i] w →
      a.Reach { b with windows := b.windows.set i w }
  | causes {b : Stored} {c : Causes} : a.Reach b → Causes.Move b.causes c → a.Reach { b with causes := c }
  | loaded {b : Stored} {start : Nat} {words : List Word} : a.Reach b → start + words.length ≤ 512 →
      a.Reach { b with cells := writeRun b.cells start words }
  | recorded {b : Stored} (l : ListOrdinal) (c : Cell) : a.Reach b →
      a.Reach { b with cells := writeCell b.cells b.captureLists[l].nextCell c }
  | answerList {b : Stored} {l : ListOrdinal} {x : AnswerList} : a.Reach b →
      AnswerList.Move b.engagedAreas b.answerLists[l] x → a.Reach { b with answerLists := b.answerLists.set l x }
  | captureList {b : Stored} {l : ListOrdinal} {x : CaptureList} : a.Reach b →
      CaptureList.Move b.engagedAreas b.captureLists[l] x → a.Reach { b with captureLists := b.captureLists.set l x }
  | softReset {b : Stored} : a.Reach b →
      a.Reach { b with
        windows := b.windows.map fun (w : Window) => { w with valid := false, hits := 0 }
        causes := Causes.clear
        answerLists := b.answerLists.map fun (l : AnswerList) => { l with state := .idle }
        captureLists := b.captureLists.map fun (l : CaptureList) => { l with state := .idle } }

/-! ### The stored fields along the shared operations -/

section
variable {a : Stored} {s : State}

/-- An event that changes cause records and no other stored field. -/
theorem Stored.Reach.of_causes {t : State} (h : a.Reach s.stored) (hm : Causes.Move s.causes t.causes)
    (hst : t.stored = { s.stored with causes := t.causes }) : a.Reach t.stored :=
  hst ▸ h.causes hm

theorem Stored.Reach.postStall (h : a.Reach s.stored) (r : Request) (x : StallReason) :
    a.Reach (s.postStall r x).stored := by
  cases x with
  | hold => exact h.of_causes { holdFull := .posted _ } rfl
  | block => exact h.of_causes { blockFull := .posted _ } rfl
  | none | gate | transit => exact h

theorem Stored.Reach.openEpisode (h : a.Reach s.stored) : a.Reach s.openEpisode.stored := by
  unfold State.openEpisode
  split
  · exact h
  · split
    · exact h
    · split
      · exact h
      · exact h.postStall _ _

theorem State.stored_quiesceTest (s : State) : s.quiesceTest.stored = s.stored := by simp [State.stored]

theorem Stored.Reach.settle (h : a.Reach s.stored) : a.Reach s.settle.stored :=
  Stored.Reach.openEpisode (s.stored_quiesceTest.symm ▸ h)

theorem Stored.Reach.answered (h : a.Reach s.stored) (i : TransitIndex) {l : ListOrdinal}
    (harmed : s.answerLists[l].state = .armed) : a.Reach (s.answered i l).stored :=
  h.answerList (.advanced harmed)

theorem Stored.Reach.captured (h : a.Reach s.stored) (i : TransitIndex) {l : ListOrdinal} (c : Cell)
    (harmed : s.captureLists[l].state = .armed) : a.Reach (s.captured i l c).stored :=
  (h.recorded l c).captureList (.advanced harmed)

theorem Stored.Reach.carryOut (h : a.Reach s.stored) (i : TransitIndex) : a.Reach (s.carryOut i).stored := by
  rcases s.carryOut_cases i with
    ⟨hs, -⟩ | hforward | ⟨_, _, hhold⟩ | ⟨_, _, _, -, -, hrefuse⟩ | ⟨l, harmed, hread⟩ | ⟨l, c, harmed, hwrite⟩
  · rwa [hs]
  · rw [hforward]; exact h
  · rw [hhold]; exact h
  · rw [hrefuse]; exact h.of_causes { refusal := .posted _ } rfl
  · have ha := h.answered i harmed
    rw [hread]
    split
    · exact ha.of_causes { answerOut := .posted _ } rfl
    · exact ha
  · have hc := h.captured i c harmed
    rw [hwrite]
    split
    · exact hc.of_causes { captureFull := .posted _ } rfl
    · exact hc

theorem Stored.Reach.walkOne (h : a.Reach s.stored) (i : TransitIndex) : a.Reach (s.walkOne i).stored :=
  Stored.Reach.carryOut (s := { s with blocked := s.blocked.filter fun j => decide (j ≠ i) }) h i

theorem Stored.Reach.walk (h : a.Reach s.stored) (chain : List TransitIndex) : a.Reach (s.walk chain).stored :=
  State.walk_induction (P := fun t => a.Reach t.stored) (fun _ i ht => ht.walkOne i) chain s h

theorem Stored.Reach.depart (h : a.Reach s.stored) (sl : Slot) (e : Entry) (dest : Departure) :
    a.Reach (s.depart sl e dest).stored := by
  have hleft : (((s.dropSlot sl.entry).routeDeparture sl.entry dest).closeSlotContext sl).stored = s.stored := by
    simp [State.stored]
  exact Stored.Reach.walk (hleft.symm ▸ h) _

theorem Stored.Reach.expire (h : a.Reach s.stored) (sl : Slot) : a.Reach (s.expire sl).stored := by
  unfold State.expire
  split
  · exact h
  · split
    · exact h
    · exact ((h.of_causes { deadline := .posted _ } rfl : a.Reach (s.postDeadline _).stored).depart _ _ _).settle

/-! ### The stored fields along the H-port and the timers -/

theorem Stored.Reach.countHitFor (h : a.Reach s.stored) (r : Request) : a.Reach (s.countHitFor r).stored := by
  unfold State.countHitFor
  split
  · exact h.window (.counted _)
  · exact h

theorem Stored.Reach.accept (h : a.Reach s.stored) (i : TransitIndex) (r : Request) :
    a.Reach (s.accept i r).stored := by
  unfold State.accept
  split
  · exact h.of_causes { tagClash := .posted _ } rfl
  · split
    · exact h.countHitFor r
    · exact Stored.Reach.carryOut (s := (s.countHitFor r).enter i (s.acceptedEntry r .issueWait)) (h.countHitFor r) i

theorem Stored.Reach.acceptHead (h : a.Reach s.stored) : a.Reach s.acceptHead.stored := by
  unfold State.acceptHead
  split
  · exact (h.accept _ _).settle
  · exact h

theorem Stored.Reach.respond (h : a.Reach s.stored) (i : TransitIndex) (e : Entry) (reply : MemReply) :
    a.Reach (s.respond i e reply).stored := by
  cases reply with
  | ok _ => exact h
  | error => exact h.of_causes { memoryError := .posted _ } rfl

theorem Stored.Reach.hostResetEvent (h : a.Reach s.stored) : a.Reach s.hostResetEvent.stored :=
  Stored.Reach.settle (h.of_causes { hostReset := .posted s.hostResetDetail } rfl)

theorem Stored.Reach.gapExpiry (h : a.Reach s.stored) : a.Reach s.gapExpiry.stored := by
  unfold State.gapExpiry
  split
  · exact h.of_causes { linkFault := .posted _ } rfl
  all_goals exact h

theorem State.stored_quiesceTimeout (s : State) : s.quiesceTimeout.stored = s.stored := by
  unfold State.quiesceTimeout
  split <;> rfl

theorem Stored.Reach.idle (h : a.Reach s.stored) : a.Reach s.idle.stored := by
  unfold State.idle
  split
  · exact h
  · split
    · exact h.acceptHead
    · split
      · exact h.expire _
      · split
        · exact h.gapExpiry
        · split
          · rwa [State.stored_quiesceTimeout]
          · exact h

/-! ### The stored fields along the framed commands -/

theorem Stored.Reach.writeWindow (h : a.Reach s.stored) (w : WindowImage) :
    a.Reach (cmdWriteWindow w s).1.stored := by
  unfold cmdWriteWindow
  split
  · next i win _ hwin => exact Stored.Reach.openEpisode (h.window (i := i) (.written hwin))
  · exact h

theorem Stored.Reach.readWindow (h : a.Reach s.stored) (index flag : Byte) :
    a.Reach (cmdReadWindow index flag s).1.stored := by
  unfold cmdReadWindow
  split
  · next i clear _ _ =>
    cases clear
    · exact h
    · exact h.window (i := i) (.counted 0)
  · exact h

theorem Stored.Reach.setArbitration (h : a.Reach s.stored) (order nesting floor suppressed notifyOn : Byte) :
    a.Reach (cmdSetArbitration order nesting floor suppressed notifyOn s).1.stored := by
  unfold cmdSetArbitration
  split
  · exact h
  · split <;> exact h

theorem Stored.Reach.take (h : a.Reach s.stored) : a.Reach (cmdTake s).1.stored := by
  unfold cmdTake
  repeat' split
  all_goals exact h

theorem Stored.Reach.peek (h : a.Reach s.stored) (ctx : Byte) : a.Reach (cmdPeek ctx s).1.stored := by
  unfold cmdPeek
  repeat' split
  all_goals exact h

theorem Stored.Reach.closeBy (h : a.Reach s.stored) (sl : Slot) (e : Entry) (dest : Departure) :
    a.Reach (s.closeBy sl e dest).1.stored :=
  (h.depart sl e dest).openEpisode

theorem Stored.Reach.release (h : a.Reach s.stored) (ctx : Byte) (ticket : Half) :
    a.Reach (cmdRelease ctx ticket s).1.stored := by
  unfold cmdRelease
  split
  · exact h
  · split
    · exact h
    · exact h.closeBy _ _ _

theorem Stored.Reach.rewrite (h : a.Reach s.stored) (i : TransitIndex) (e : Entry) (lanes : Lanes) (data : Word) :
    a.Reach (s.rewrite i e lanes data).stored := h

theorem Stored.Reach.releaseWithData (h : a.Reach s.stored) (ctx : Byte) (ticket : Half) (lanes : Byte) (data : Word) :
    a.Reach (cmdReleaseWithData ctx ticket lanes data s).1.stored := by
  unfold cmdReleaseWithData
  split
  · split
    · exact h
    · split
      · exact h
      · exact (h.rewrite _ _ _ _).closeBy _ _ _
  · exact h

theorem Stored.Reach.answer (h : a.Reach s.stored) (ctx : Byte) (ticket : Half) (data : Word) :
    a.Reach (cmdAnswer ctx ticket data s).1.stored := by
  unfold cmdAnswer
  split
  · exact h
  · split
    · exact h
    · exact h.closeBy _ _ _

theorem Stored.Reach.refuse (h : a.Reach s.stored) (ctx : Byte) (ticket : Half) :
    a.Reach (cmdRefuse ctx ticket s).1.stored := by
  unfold cmdRefuse
  split
  · exact h
  · split
    · exact h
    · exact h.closeBy _ _ _

theorem Stored.Reach.extend (h : a.Reach s.stored) (ctx : Byte) (ticket : Half) (code : Byte) :
    a.Reach (cmdExtend ctx ticket code s).1.stored := by
  unfold cmdExtend
  split
  · split <;> exact h
  · exact h

/-- An area that passes ARM's test meets the area of no engaged list (R126). -/
theorem State.areasMeet_eq_false_of_meetsEngaged {area : Nat × Nat} (h : ¬ s.meetsEngaged area = true) :
    ∀ b ∈ s.stored.engagedAreas, areasMeet area b = false := by
  simpa [State.meetsEngaged, State.engagedAreas_stored] using h

theorem Stored.Reach.setList (h : a.Reach s.stored) (list : Byte) (first length : Half) (control : Byte) :
    a.Reach (cmdSetList list first length control s).1.stored := by
  unfold cmdSetList
  split
  · next x reload _ _ hok =>
    split
    · exact h
    · exact Stored.Reach.openEpisode (h.answerList (.written x reload hok))
  · next x _ _ _ hok =>
    split
    · exact h
    · exact Stored.Reach.openEpisode (h.captureList (.written x hok))
  · exact h

theorem Stored.Reach.loadCells (h : a.Reach s.stored) (start : Half) (words : List Word) :
    a.Reach (cmdLoadCells start words s).1.stored := by
  unfold cmdLoadCells
  split
  · exact h
  · split
    · exact h
    · exact h.loaded (by omega)

theorem Stored.Reach.armList (h : a.Reach s.stored) (list : Byte) : a.Reach (cmdArmList list s).1.stored := by
  unfold cmdArmList
  split
  · exact h
  · dsimp only
    split
    · exact h
    · split
      · exact h
      · next hfree =>
        exact Stored.Reach.openEpisode (h.answerList (.armed (State.areasMeet_eq_false_of_meetsEngaged hfree)))
  · next l _ =>
    dsimp only
    split
    · exact h
    · split
      · exact h
      · next hfree =>
        have harmed : a.Reach (s.setCaptureList l s.captureLists[l].armed).stored :=
          h.captureList (.armed (State.areasMeet_eq_false_of_meetsEngaged hfree))
        refine Stored.Reach.openEpisode ?_
        split
        · exact harmed.of_causes { captureFull := .posted _ } rfl
        · exact harmed

theorem Stored.Reach.disarmList (h : a.Reach s.stored) (list : Byte) : a.Reach (cmdDisarmList list s).1.stored := by
  unfold cmdDisarmList
  split
  · exact h
  · exact Stored.Reach.openEpisode (h.answerList .disarmed)
  · exact Stored.Reach.openEpisode (h.captureList .disarmed)

theorem Stored.Reach.readList (h : a.Reach s.stored) (list : Byte) : a.Reach (cmdReadList list s).1.stored := by
  unfold cmdReadList
  split <;> exact h

theorem Stored.Reach.drainCapture (h : a.Reach s.stored) (list n : Byte) :
    a.Reach (cmdDrainCapture list n s).1.stored := by
  unfold cmdDrainCapture
  split
  · split
    · exact h
    · dsimp only
      split
      · exact h
      · exact Stored.Reach.openEpisode (h.captureList (.drained _))
  · exact h

theorem Stored.Reach.readAttention (h : a.Reach s.stored) (cause : Byte) :
    a.Reach (cmdReadAttention cause s).1.stored := by
  unfold cmdReadAttention
  split <;> exact h

theorem RecordMove.clearIf {α : Type} (named : Bool) (r : Option (CauseRecord α)) : RecordMove r (clearIf named r) := by
  cases named
  · exact .kept
  · exact .cleared

theorem Stored.Reach.clearAttention (h : a.Reach s.stored) (causes : Half) :
    a.Reach (cmdClearAttention causes s).1.stored := by
  unfold cmdClearAttention
  split
  · exact h
  · exact h.causes
      { deadline := .clearIf _ _, holdFull := .clearIf _ _, blockFull := .clearIf _ _, answerOut := .clearIf _ _,
        captureFull := .clearIf _ _, refusal := .clearIf _ _, memoryError := .clearIf _ _, tagClash := .clearIf _ _,
        linkFault := .clearIf _ _, hostReset := .clearIf _ _ }

theorem Stored.Reach.setAttentionEnable (h : a.Reach s.stored) (causes : Half) :
    a.Reach (cmdSetAttentionEnable causes s).1.stored := by
  unfold cmdSetAttentionEnable
  split <;> exact h

theorem Stored.Reach.setGate (h : a.Reach s.stored) (code : Byte) : a.Reach (cmdGate code s).1.stored := by
  unfold cmdGate
  split
  · exact h
  · exact Stored.Reach.openEpisode h

theorem Stored.Reach.startQuiesce (h : a.Reach s.stored) : a.Reach s.startQuiesce.stored := by
  unfold State.startQuiesce
  refine Stored.Reach.openEpisode ?_
  split <;> exact h

theorem Stored.Reach.cmdSoftReset (h : a.Reach s.stored) : a.Reach (cmdSoftReset s).1.stored :=
  Stored.Reach.openEpisode h.softReset

/-! ### The stored fields along the link -/

/-- Every framed command, executed (R161). -/
theorem Stored.Reach.run (h : a.Reach s.stored) (length : Nat) (c : Instr) : a.Reach (s.run length c).stored := by
  cases c with
  | writeWindow w => exact h.writeWindow w
  | readWindow index flag => exact h.readWindow index flag
  | setArbitration o n f u y => exact h.setArbitration o n f u y
  | take => exact h.take
  | peek ctx => exact h.peek ctx
  | release ctx ticket => exact h.release ctx ticket
  | releaseWithData ctx ticket lanes data => exact h.releaseWithData ctx ticket lanes data
  | answer ctx ticket data => exact h.answer ctx ticket data
  | refuse ctx ticket => exact h.refuse ctx ticket
  | extend ctx ticket code => exact h.extend ctx ticket code
  | setList list first len control => exact h.setList list first len control
  | loadCells start words => exact h.loadCells start words
  | armList list => exact h.armList list
  | disarmList list => exact h.disarmList list
  | readList list => exact h.readList list
  | drainCapture list n => exact h.drainCapture list n
  | readAttention cause => exact h.readAttention cause
  | clearAttention causes => exact h.clearAttention causes
  | setAttentionEnable causes => exact h.setAttentionEnable causes
  | gate code => exact h.setGate code
  | quiesce => exact h.startQuiesce
  | softReset => exact h.cmdSoftReset
  | _ => exact h

theorem Stored.Reach.examine (h : a.Reach s.stored) (op len : Byte) (payload : List Byte) (check : Byte) :
    a.Reach (s.examine op len payload check).stored := by
  unfold State.examine
  split
  · exact h
  · split
    · exact h
    · exact h
    · exact h.run _ _

theorem Stored.Reach.receive (h : a.Reach s.stored) (bytes : List Byte) : a.Reach (s.receive bytes).stored := by
  unfold State.receive
  split
  · split
    · exact h.of_causes { linkFault := .posted _ } rfl
    · split
      · exact Stored.Reach.examine (s := { s with link := .idle }) h _ _ _ _
      · exact h
  · exact h

theorem Stored.Reach.writeByte (h : a.Reach s.stored) (b : Byte) : a.Reach (s.writeByte b).stored := by
  unfold State.writeByte
  split
  · exact h
  · split
    · exact h.receive _
    · exact h.receive _
    · exact h
    all_goals exact h.of_causes { linkFault := .posted _ } rfl

theorem Stored.Reach.writeBytes (h : a.Reach s.stored) (bs : List Byte) : a.Reach (s.writeBytes bs).stored := by
  induction bs generalizing s with
  | nil => exact h
  | cons b bs ih => exact ih (h.writeByte b)

theorem State.stored_readByte (s : State) : s.readByte.stored = s.stored := by
  unfold State.readByte
  split
  · rfl
  · split <;> rfl

/-- The row of a framed command with this execution on an IDLE link. -/
theorem Stored.Reach.sendFrame (h : a.Reach s.stored) {c : Instr} {effect : State → State} {t : State}
    (heffect : a.Reach (effect s).stored) (hstep : sendFrame c effect s = .next t) : a.Reach t.stored := by
  unfold Machine.sendFrame at hstep
  cases hstep
  split
  · exact h
  · split
    · exact heffect
    · exact h.writeBytes _

/-- The row of a framed command, which a link that is IDLE executes. -/
theorem Stored.Reach.framed (h : a.Reach s.stored) {c : Instr} {length : Nat} {t : State}
    (hstep : Machine.sendFrame c (fun u => u.run length c) s = .next t) : a.Reach t.stored :=
  h.sendFrame (h.run length c) hstep

/-! ### The stored fields along a step -/

theorem Stored.Reach.exec (h : a.Reach s.stored) {c : Instr} {t : State} (hstep : exec c s = .next t) :
    a.Reach t.stored := by
  cases c with
  | headRequestPresented r =>
    simp only [Machine.exec, execHeadRequestPresented] at hstep
    split at hstep
    · cases hstep; exact h
    · cases hstep
      split
      · exact Stored.Reach.openEpisode h
      · exact h
  | acceptance => cases hstep; exact h.acceptHead
  | issue =>
    simp only [Machine.exec, execIssue] at hstep
    split at hstep
    · cases hstep; exact Stored.Reach.settle h
    · cases hstep; exact h
  | memoryResponse i reply =>
    simp only [Machine.exec, execMemoryResponse] at hstep
    split at hstep
    · cases hstep; exact h
    · split at hstep
      · cases hstep; exact (h.respond i _ reply).settle
      · cases hstep; exact Stored.Reach.settle h
      all_goals cases hstep; exact h
  | hostTake =>
    simp only [Machine.exec, execHostTake] at hstep
    split at hstep
    · cases hstep; exact Stored.Reach.settle h
    · cases hstep; exact h
  | hostReset =>
    cases hstep
    split
    · exact h
    · split
      · exact h
      · exact h.hostResetEvent
  | hresetNegation => cases hstep; exact h
  | powerOnReset => cases hstep; exact .powerOn
  | presetNegation => cases hstep; split <;> exact h
  | deadlineExpiry i =>
    simp only [Machine.exec, execDeadlineExpiry] at hstep
    split at hstep
    · cases hstep; exact h
    · cases hstep
      split
      · exact h.expire _
      · exact h
  | gapTimerExpiry =>
    cases hstep
    split
    · exact h.gapExpiry
    · exact h
  | quiesceCompletion => cases hstep; rwa [State.stored_quiesceTest]
  | quiesceTimerExpiry =>
    cases hstep
    split
    · rwa [State.stored_quiesceTimeout]
    · exact h
  | frameWrite b => cases hstep; exact h.writeByte b
  | frameRead => cases hstep; rwa [State.stored_readByte]
  | abort control =>
    cases hstep
    split
    · exact h
    · split <;> exact h
  | loadCells start words =>
    simp only [Machine.exec, execLoadCells] at hstep
    split at hstep
    · cases hstep
    · refine h.sendFrame ?_ hstep
      split
      · exact h.run _ (.loadCells start words)
      · exact h.writeBytes _
  | quiesce => exact h.sendFrame h.startQuiesce hstep
  | _ => exact h.framed hstep

end

/-- What a step does to the stored fields is a run of moves. -/
theorem stored_step {s t : State} (h : step s = .next t) : s.stored.Reach t.stored := by
  unfold step at h
  split at h
  · cases h; exact Stored.Reach.idle .refl
  · next c rest _ => exact Stored.Reach.exec (s := { s with pending := rest }) .refl h

end Sys2Proof.Machine

namespace Sys2Proof.Machine

-- One proof at a time: proofs in parallel wait for one another on threads of their own, each with its stack.
set_option Elab.async false

/-! ### The window of a WRITE WINDOW payload -/

/-- A base with its low bits cleared is the largest multiple of 2^e not above it (R34). -/
theorem toNat_alignBase (base : Word) (e : Nat) : (alignBase base e).toNat = base.toNat / 2 ^ e * 2 ^ e := by
  have hle : base.toNat / 2 ^ e * 2 ^ e < 2 ^ 32 :=
    Nat.lt_of_le_of_lt (Nat.div_mul_le_self _ _) base.isLt
  simp only [alignBase, BitVec.toNat_shiftLeft, BitVec.toNat_ushiftRight, Nat.shiftLeft_eq, Nat.shiftRight_eq_div_pow]
  exact Nat.mod_eq_of_lt hle

/-- The fields of a window image that passes R31, and the window they make. -/
theorem windowOf_eq_some {w : WindowImage} {win : Window} :
    windowOf w = some win ↔ ∃ e f c k x rl wl,
      exponentOf w.exponent = some e ∧ filterOf (w.control.extractLsb' 1 2) = some f ∧ finOf 6 w.cls.toNat = some c ∧
      finOf 16 w.deadlineCode.toNat = some k ∧ deadlineActionOf w.deadlineAction = some x ∧
      readListOf w.readList = some rl ∧ writeListOf w.writeList = some wl ∧
      (w.control.extractLsb' 5 3 = 0 ∧ ¬(actionOf (w.control.extractLsb' 3 2) = .list ∧ 12 < e.val)) ∧
      win = { valid := w.control.getLsbD 0, base := alignBase w.base e.val, exponent := e, filter := f,
              masters := w.masters, action := actionOf (w.control.extractLsb' 3 2), cls := c, deadlineCode := k,
              deadlineAction := x, fill := w.fill, readList := rl, writeList := wl, hits := 0 } := by
  simp only [windowOf, bind, Option.bind_eq_some_iff, Option.ite_none_right_eq_some, Option.some.injEq,
    eq_comm (a := win)]
  constructor
  · rintro ⟨e, he, f, hf, c, hc, k, hk, x, hx, rl, hrl, wl, hwl, hsound, hwin⟩
    exact ⟨e, f, c, k, x, rl, wl, he, hf, hc, hk, hx, hrl, hwl, hsound, hwin⟩
  · rintro ⟨e, f, c, k, x, rl, wl, he, hf, hc, hk, hx, hrl, hwl, hsound, hwin⟩
    exact ⟨e, he, f, hf, c, hc, k, hk, x, hx, rl, hrl, wl, hwl, hsound, hwin⟩

theorem finOf_eq_some {n b : Nat} {i : Fin n} : finOf n b = some i ↔ i.val = b := by
  unfold finOf
  split
  · simp [Fin.ext_iff, eq_comm]
  · next h =>
    simp only [reduceCtorEq, false_iff]
    rintro rfl
    exact h i.isLt

theorem exponentOf_eq_some {b : Byte} {e : Fin 32} : exponentOf b = some e ↔ 2 ≤ e.val ∧ e.val = b.toNat := by
  unfold exponentOf
  split
  · rw [finOf_eq_some]; omega
  · simp only [reduceCtorEq, false_iff]; omega

/-! ### Windows stay aligned -/

/-- What `State.WindowsAligned` asks of each window (R23, R24, R31). -/
def Window.Aligned (w : Window) : Prop :=
  2 ≤ w.exponent.val ∧ w.base.toNat % 2 ^ w.exponent.val = 0 ∧ (w.action = .list → w.exponent.val ≤ 12)

theorem Window.Aligned.of_windowOf {image : WindowImage} {w : Window} (h : windowOf image = some w) : w.Aligned := by
  obtain ⟨e, f, c, k, x, rl, wl, he, -, -, -, -, -, -, ⟨-, hlist⟩, rfl⟩ := windowOf_eq_some.1 h
  refine ⟨(exponentOf_eq_some.1 he).1, ?_, fun ha => Nat.le_of_not_lt fun h12 => hlist ⟨ha, h12⟩⟩
  rw [toNat_alignBase]
  exact Nat.mul_mod_left _ _

theorem Window.Aligned.move {w w' : Window} (h : w.Aligned) (hm : Window.Move w w') : w'.Aligned := by
  cases hm with
  | counted n => exact h
  | written hw => exact .of_windowOf hw

theorem Stored.Reach.windows_aligned {a b : Stored} (h : a.Reach b) (ha : ∀ i : WindowIndex, a.windows[i].Aligned) :
    ∀ i : WindowIndex, b.windows[i].Aligned := by
  induction h with
  | refl => exact ha
  | powerOn =>
    intro i
    simp [State.stored, State.reset, Window.Aligned, Window.powerOn]
  | @window b i w _ hm ih =>
    intro j
    simp only [Fin.getElem_fin, Vector.getElem_set]
    split
    · exact (ih i).move hm
    · exact ih j
  | softReset _ ih =>
    intro i
    simpa [Window.Aligned] using ih i
  | causes _ _ ih | loaded _ _ ih | recorded _ _ _ ih | answerList _ _ ih | captureList _ _ ih => exact ih

/-! ### Occurrences stay in range -/

theorem occurrencesOk_some {α : Type} {rec : CauseRecord α} :
    occurrencesOk (some rec) = true ↔ 1 ≤ rec.occurrences ∧ rec.occurrences ≤ Config.maxOccurrences := by
  simp [occurrencesOk]

theorem occurrencesOk_post {α : Type} {r : Option (CauseRecord α)} (h : occurrencesOk r = true) (d : α) :
    occurrencesOk (post r d) = true := by
  cases r with
  | none => rfl
  | some rec =>
    simp only [post]
    split
    · next hlt => exact occurrencesOk_some.2 ⟨Nat.le_add_left _ _, hlt⟩
    · exact h

theorem occurrencesOk_move {α : Type} {r r' : Option (CauseRecord α)} (h : occurrencesOk r = true)
    (hm : RecordMove r r') : occurrencesOk r' = true := by
  cases hm with
  | kept => exact h
  | cleared => rfl
  | posted d => exact occurrencesOk_post h d

/-- What `State.OccurrencesInRange` asks of the ten records (R140). -/
structure Causes.InRange (c : Causes) : Prop where
  deadline    : occurrencesOk c.deadline = true
  holdFull    : occurrencesOk c.holdFull = true
  blockFull   : occurrencesOk c.blockFull = true
  answerOut   : occurrencesOk c.answerOut = true
  captureFull : occurrencesOk c.captureFull = true
  refusal     : occurrencesOk c.refusal = true
  memoryError : occurrencesOk c.memoryError = true
  tagClash    : occurrencesOk c.tagClash = true
  linkFault   : occurrencesOk c.linkFault = true
  hostReset   : occurrencesOk c.hostReset = true

theorem State.occurrencesInRange_iff {s : State} : s.OccurrencesInRange ↔ s.causes.InRange :=
  ⟨fun ⟨h0, h1, h2, h3, h4, h5, h6, h7, h8, h9⟩ => ⟨h0, h1, h2, h3, h4, h5, h6, h7, h8, h9⟩,
   fun ⟨h0, h1, h2, h3, h4, h5, h6, h7, h8, h9⟩ => ⟨h0, h1, h2, h3, h4, h5, h6, h7, h8, h9⟩⟩

theorem Causes.InRange.clear : Causes.clear.InRange := ⟨rfl, rfl, rfl, rfl, rfl, rfl, rfl, rfl, rfl, rfl⟩

theorem Causes.InRange.move {c c' : Causes} (h : c.InRange) (hm : Causes.Move c c') : c'.InRange where
  deadline := occurrencesOk_move h.deadline hm.deadline
  holdFull := occurrencesOk_move h.holdFull hm.holdFull
  blockFull := occurrencesOk_move h.blockFull hm.blockFull
  answerOut := occurrencesOk_move h.answerOut hm.answerOut
  captureFull := occurrencesOk_move h.captureFull hm.captureFull
  refusal := occurrencesOk_move h.refusal hm.refusal
  memoryError := occurrencesOk_move h.memoryError hm.memoryError
  tagClash := occurrencesOk_move h.tagClash hm.tagClash
  linkFault := occurrencesOk_move h.linkFault hm.linkFault
  hostReset := occurrencesOk_move h.hostReset hm.hostReset

theorem Stored.Reach.causes_inRange {a b : Stored} (h : a.Reach b) (ha : a.causes.InRange) : b.causes.InRange := by
  induction h with
  | refl => exact ha
  | powerOn | softReset => exact .clear
  | causes _ hm ih => exact ih.move hm
  | window _ _ ih | loaded _ _ ih | recorded _ _ _ ih | answerList _ _ ih | captureList _ _ ih => exact ih

/-! ### Descriptors stay within their ranges -/

theorem areaOk_iff {first length : Nat} : areaOk first length = true ↔ 1 ≤ length ∧ first + length ≤ 512 := by
  simp [areaOk]; omega

theorem AnswerList.Ok.powerOn : AnswerList.powerOn.Ok := by decide

theorem CaptureList.Ok.powerOn : CaptureList.powerOn.Ok := by decide

theorem AnswerList.Ok.move {engaged : List (Nat × Nat)} {l l' : AnswerList} (h : l.Ok)
    (hm : AnswerList.Move engaged l l') : l'.Ok := by
  obtain ⟨harea, hremaining, hone, hposition, hexhausted⟩ := h
  have hlength := (areaOk_iff.1 harea).1
  cases hm with
  | advanced harmed =>
    have hrem := hone harmed
    have hpos := hposition harmed
    unfold AnswerList.advance
    split
    · split
      · exact ⟨harea, Nat.le_refl _, fun _ => hlength, fun _ => rfl, by simp [harmed]⟩
      · exact ⟨harea, Nat.zero_le _, by simp, by simp, fun _ => ⟨by dsimp only; omega, rfl⟩⟩
    · exact ⟨harea, by dsimp only; omega, fun _ => by dsimp only; omega, fun _ => by dsimp only; omega, by simp [harmed]⟩
  | written x reload hok => exact ⟨hok, Nat.zero_le _, by simp, by simp, by simp⟩
  | armed _ => exact ⟨harea, Nat.le_refl _, fun _ => hlength, fun _ => rfl, by simp⟩
  | disarmed => exact ⟨harea, hremaining, by simp, by simp, by simp⟩

theorem CaptureList.Ok.move {engaged : List (Nat × Nat)} {l l' : CaptureList} (h : l.Ok)
    (hm : CaptureList.Move engaged l l') : l'.Ok := by
  obtain ⟨harea, hhead, hcount, hroom, hfull⟩ := h
  have hlength := (areaOk_iff.1 harea).1
  cases hm with
  | advanced harmed =>
    have hlt := hroom harmed
    unfold CaptureList.advance
    split
    · next hlast => exact ⟨harea, hhead, by dsimp only; omega, by simp, fun _ => hlast⟩
    · next hmore => exact ⟨harea, hhead, hlt, fun _ => by dsimp only; omega, by simp [harmed]⟩
  | written x hok => exact ⟨hok, (areaOk_iff.1 hok).1, Nat.zero_le _, fun _ => (areaOk_iff.1 hok).1, by simp⟩
  | armed _ =>
    unfold CaptureList.armed
    split
    · next hlast => exact ⟨harea, hhead, hcount, by simp, fun _ => hlast⟩
    · next hmore => exact ⟨harea, hhead, hcount, fun _ => by dsimp only; omega, by simp⟩
  | drained m =>
    unfold CaptureList.drained
    refine ⟨harea, Nat.mod_lt _ hlength, by dsimp only; omega, ?_, ?_⟩
    · dsimp only
      split
      · next hlost => intro _; have := hfull hlost.1; omega
      · intro harmed; have := hroom harmed; omega
    · dsimp only
      split
      · simp
      · next hnone =>
        intro hf
        have hzero : ¬ 0 < m := fun hm => hnone ⟨hf, hm⟩
        have := hfull hf
        omega
  | disarmed => exact ⟨harea, hhead, hcount, by simp, by simp⟩

/-! ### Engaged areas stay disjoint -/

/-- The area of an answer list while it is engaged (R124). -/
def AnswerList.engagedArea (l : AnswerList) : Option (Nat × Nat) := if l.state ≠ .idle then some l.area else none

/-- The area of a capture list while it is engaged (R124). -/
def CaptureList.engagedArea (l : CaptureList) : Option (Nat × Nat) := if l.state ≠ .idle then some l.area else none

/-- What the engaged areas of the eight lists are, list by list. -/
def Stored.areaByList (a : Stored) : List (Option (Nat × Nat)) :=
  a.answerLists.toList.map AnswerList.engagedArea ++ a.captureLists.toList.map CaptureList.engagedArea

/-- Two lists' engaged areas, where both have one, share no cell. -/
def AreasApart (x y : Option (Nat × Nat)) : Prop := ∀ a ∈ x, ∀ b ∈ y, areasMeet a b = false

theorem areasMeet_comm (a b : Nat × Nat) : areasMeet a b = areasMeet b a := Bool.and_comm _ _

theorem AreasApart.symm {x y : Option (Nat × Nat)} (h : AreasApart x y) : AreasApart y x :=
  fun b hb a ha => (areasMeet_comm b a).trans (h a ha b hb)

theorem Stored.engagedAreas_eq (a : Stored) : a.engagedAreas = a.areaByList.filterMap id := by
  have hfilter : ∀ {α : Type} (f : α → Nat × Nat) (p : α → Prop) [DecidablePred p] (l : List α),
      (l.filter fun x => decide (p x)).map f = (l.map fun x => if p x then some (f x) else none).filterMap id := by
    intro α f p _ l
    induction l with
    | nil => rfl
    | cons x l ih => by_cases hx : p x <;> simp [hx, ih]
  rw [Stored.engagedAreas, Stored.areaByList, List.filterMap_append, hfilter, hfilter]
  rfl

theorem Stored.pairwise_engagedAreas_iff (a : Stored) :
    a.engagedAreas.Pairwise (fun x y => areasMeet x y = false) ↔ a.areaByList.Pairwise AreasApart := by
  rw [Stored.engagedAreas_eq, List.pairwise_filterMap]
  rfl

/-- How the engaged area of a list may change: it goes, it stays, or it comes where it meets no engaged area. -/
inductive AreaMove (engaged : List (Nat × Nat)) (x : Option (Nat × Nat)) : Option (Nat × Nat) → Prop
  | gone : AreaMove engaged x none
  | kept : AreaMove engaged x x
  | engaged {area : Nat × Nat} : (∀ b ∈ engaged, areasMeet area b = false) → AreaMove engaged x (some area)

theorem AnswerList.Move.area {engaged : List (Nat × Nat)} {l l' : AnswerList} (h : AnswerList.Move engaged l l') :
    AreaMove engaged l.engagedArea l'.engagedArea := by
  cases h with
  | advanced harmed =>
    have hkept : l.advance.engagedArea = l.engagedArea := by
      unfold AnswerList.advance
      repeat' split
      all_goals simp [AnswerList.engagedArea, AnswerList.area, harmed]
    exact hkept ▸ .kept
  | armed hfree => exact .engaged hfree
  | written | disarmed => exact .gone

theorem CaptureList.Move.area {engaged : List (Nat × Nat)} {l l' : CaptureList} (h : CaptureList.Move engaged l l') :
    AreaMove engaged l.engagedArea l'.engagedArea := by
  cases h with
  | advanced harmed =>
    have hkept : l.advance.engagedArea = l.engagedArea := by
      unfold CaptureList.advance
      split <;> simp [CaptureList.engagedArea, CaptureList.area, harmed]
    exact hkept ▸ .kept
  | armed hfree =>
    have harea : l.armed.engagedArea = some l.area := by
      unfold CaptureList.armed
      split <;> simp [CaptureList.engagedArea, CaptureList.area]
    exact harea ▸ .engaged hfree
  | drained m =>
    have hkept : (l.drained m).engagedArea = l.engagedArea := by
      unfold CaptureList.drained CaptureList.engagedArea CaptureList.area
      dsimp only
      split
      · next hlost => simp [hlost.1]
      · rfl
    exact hkept ▸ .kept
  | written | disarmed => exact .gone

/-- One list's engaged area may move so, and the engaged areas stay disjoint. -/
theorem pairwise_set_of_areaMove {areas : List (Option (Nat × Nat))} {k : Nat} (hk : k < areas.length)
    {x : Option (Nat × Nat)} (h : areas.Pairwise AreasApart) (hm : AreaMove (areas.filterMap id) areas[k] x) :
    (areas.set k x).Pairwise AreasApart := by
  have hapart : ∀ j (hj : j < areas.length), j ≠ k → AreasApart x areas[j] := by
    intro j hj hjk
    cases hm with
    | gone => exact fun _ ha => absurd ha (by simp)
    | kept =>
      rcases Nat.lt_or_gt_of_ne hjk with hlt | hgt
      · exact (List.pairwise_iff_getElem.1 h j k hj hk hlt).symm
      · exact List.pairwise_iff_getElem.1 h k j hk hj hgt
    | engaged hfree =>
      rintro a ha b hb
      obtain rfl := Option.mem_some.1 ha
      exact hfree b (List.mem_filterMap.2 ⟨areas[j], List.getElem_mem hj, hb⟩)
  rw [List.pairwise_iff_getElem] at h ⊢
  intro i j hi hj hij
  rw [List.length_set] at hi hj
  simp only [List.getElem_set]
  split
  · next hki => rw [if_neg (by omega)]; exact hapart j hj (by omega)
  · split
    · exact (hapart i hi (by omega)).symm
    · exact h i j hi hj hij

/-! ### Lists stay sound -/

/-- What `State.ListsSound` asks of the stored fields (R121, R123, R124). -/
structure Stored.ListsSound (a : Stored) : Prop where
  cells    : cellsWf a.cells = true
  answers  : ∀ l : ListOrdinal, a.answerLists[l].Ok
  captures : ∀ l : ListOrdinal, a.captureLists[l].Ok
  disjoint : a.areaByList.Pairwise AreasApart

theorem State.listsSound_iff {s : State} : s.ListsSound ↔ s.stored.ListsSound :=
  ⟨fun ⟨hcells, hans, hcap, hareas⟩ => ⟨hcells, hans, hcap, (Stored.pairwise_engagedAreas_iff _).1 hareas⟩,
   fun ⟨hcells, hans, hcap, hareas⟩ => ⟨hcells, hans, hcap, (Stored.pairwise_engagedAreas_iff _).2 hareas⟩⟩

/-- The cell a capture list records in lies in list memory. -/
theorem CaptureList.nextCell_lt {l : CaptureList} (h : l.Ok) : l.nextCell < 512 := by
  obtain ⟨harea, -⟩ := h
  obtain ⟨hlength, hend⟩ := areaOk_iff.1 harea
  have := Nat.mod_lt (l.head + l.count) hlength
  unfold CaptureList.nextCell
  omega

/-- With every list IDLE no area is engaged. -/
theorem pairwise_areaByList_of_idle {a : Stored} (hans : ∀ l ∈ a.answerLists.toList, l.state = .idle)
    (hcap : ∀ l ∈ a.captureLists.toList, l.state = .idle) : a.areaByList.Pairwise AreasApart := by
  have hnone : ∀ x ∈ a.areaByList, x = none := by
    intro x hx
    rcases List.mem_append.1 hx with hx | hx
    · obtain ⟨l, hl, rfl⟩ := List.mem_map.1 hx
      simp [AnswerList.engagedArea, hans l hl]
    · obtain ⟨l, hl, rfl⟩ := List.mem_map.1 hx
      simp [CaptureList.engagedArea, hcap l hl]
  refine List.pairwise_of_forall_mem_list fun x hx y _ => ?_
  rw [hnone x hx]
  exact fun _ ha => absurd ha (by simp)

theorem Stored.ListsSound.answerList {b : Stored} {l : ListOrdinal} {x : AnswerList} (h : b.ListsSound)
    (hm : AnswerList.Move b.engagedAreas b.answerLists[l] x) :
    ({ b with answerLists := b.answerLists.set l x } : Stored).ListsSound where
  cells := h.cells
  answers := by
    intro j
    simp only [Fin.getElem_fin, Vector.getElem_set]
    split
    · exact (h.answers l).move hm
    · exact h.answers j
  captures := h.captures
  disjoint := by
    have hl : l.val < b.areaByList.length := by simp [Stored.areaByList]; omega
    have hset : ({ b with answerLists := b.answerLists.set l x } : Stored).areaByList =
        b.areaByList.set l.val x.engagedArea := by
      simp [Stored.areaByList, Vector.toList_set, List.map_set]
    have hget : b.areaByList[l.val] = b.answerLists[l].engagedArea := by
      simp [Stored.areaByList]
    rw [hset]
    exact pairwise_set_of_areaMove hl h.disjoint (hget ▸ b.engagedAreas_eq ▸ hm.area)

theorem Stored.ListsSound.captureList {b : Stored} {l : ListOrdinal} {x : CaptureList} (h : b.ListsSound)
    (hm : CaptureList.Move b.engagedAreas b.captureLists[l] x) :
    ({ b with captureLists := b.captureLists.set l x } : Stored).ListsSound where
  cells := h.cells
  answers := h.answers
  captures := by
    intro j
    simp only [Fin.getElem_fin, Vector.getElem_set]
    split
    · exact (h.captures l).move hm
    · exact h.captures j
  disjoint := by
    have hl : 4 + l.val < b.areaByList.length := by simp [Stored.areaByList]; omega
    have hset : ({ b with captureLists := b.captureLists.set l x } : Stored).areaByList =
        b.areaByList.set (4 + l.val) x.engagedArea := by
      simp [Stored.areaByList, Vector.toList_set, List.map_set]
    have hget : b.areaByList[4 + l.val] = b.captureLists[l].engagedArea := by
      simp [Stored.areaByList]
    rw [hset]
    exact pairwise_set_of_areaMove hl h.disjoint (hget ▸ b.engagedAreas_eq ▸ hm.area)

theorem Stored.Reach.listsSound {a b : Stored} (h : a.Reach b) (ha : a.ListsSound) : b.ListsSound := by
  induction h with
  | refl => exact ha
  | powerOn =>
    exact ⟨rfl, by simpa [State.stored, State.reset] using AnswerList.Ok.powerOn,
      by simpa [State.stored, State.reset] using CaptureList.Ok.powerOn,
      pairwise_areaByList_of_idle (by simp [State.stored, State.reset, AnswerList.powerOn])
        (by simp [State.stored, State.reset, CaptureList.powerOn])⟩
  | loaded _ hfit ih => exact ⟨writeRun_wf _ hfit ih.cells, ih.answers, ih.captures, ih.disjoint⟩
  | recorded l c _ ih =>
    exact ⟨writeCell_wf c (CaptureList.nextCell_lt (ih.captures l)) ih.cells, ih.answers, ih.captures, ih.disjoint⟩
  | answerList _ hm ih => exact ih.answerList hm
  | captureList _ hm ih => exact ih.captureList hm
  | softReset _ ih =>
    refine ⟨ih.cells, fun l => ?_, fun l => ?_, pairwise_areaByList_of_idle (by simp) (by simp)⟩
    · have := (ih.answers l).move (.disarmed (engaged := []))
      simpa using this
    · have := (ih.captures l).move (.disarmed (engaged := []))
      simpa using this
  | window _ _ ih | causes _ _ ih => exact ⟨ih.cells, ih.answers, ih.captures, ih.disjoint⟩

/-- Settles O55: a step's stored fields are reached by a run of moves, and each move keeps each of the three ranges. -/
theorem stepKeepsStoredFieldsInRange : Obligations.StepKeepsStoredFieldsInRange :=
  ⟨fun _ _ hs hstep => (stored_step hstep).windows_aligned hs,
   fun _ _ hs hstep =>
    State.occurrencesInRange_iff.2 ((stored_step hstep).causes_inRange (State.occurrencesInRange_iff.1 hs)),
   fun _ _ hs hstep => State.listsSound_iff.2 ((stored_step hstep).listsSound (State.listsSound_iff.1 hs))⟩

end Sys2Proof.Machine

namespace Sys2Proof.Machine

-- One proof at a time: proofs in parallel wait for one another on threads of their own, each with its stack.
set_option Elab.async false

/-! ### Selection (R24 to R26) -/

/-- A word's byte address is four times its word address (R1). -/
theorem toNat_byteAddr (a : WordAddr) : (byteAddr a).toNat = 4 * a.toNat := by
  simp only [byteAddr, BitVec.toNat_append]
  simp [Nat.shiftLeft_eq, Nat.mul_comm]

theorem Window.covers_iff {w : Window} {a : WordAddr} :
    w.covers a = true ↔ w.base.toNat ≤ 4 * a.toNat ∧ 4 * a.toNat < w.base.toNat + 2 ^ w.exponent.val := by
  simp [Window.covers, toNat_byteAddr]

theorem Filter.allows_iff {f : Filter} {a : Access} :
    f.allows (kindOf a) = true ↔ f = .both ∨ (f = .reads ∧ a = .read) ∨ (f = .writes ∧ a ≠ .read) := by
  cases f <;> cases a <;> simp [Filter.allows, kindOf]

/-- The window takes the request: it is valid, and its range, filter and master set do (R25). -/
theorem Window.matchesRequest_iff {w : Window} {r : Request} :
    w.matchesRequest r = true ↔ w.valid = true ∧ w.base.toNat ≤ 4 * r.addr.toNat ∧
      4 * r.addr.toNat < w.base.toNat + 2 ^ w.exponent.val ∧
      (w.filter = .both ∨ (w.filter = .reads ∧ r.access = .read) ∨ (w.filter = .writes ∧ r.access ≠ .read)) ∧
      w.masters.getLsbD r.master.val = true := by
  simp only [Window.matchesRequest, Bool.and_eq_true, Window.covers_iff, Filter.allows_iff, and_assoc]

/-- The first of the indices in order that passes a test is the least that does. -/
theorem find?_finRange_eq_some {n : Nat} {p : Fin n → Bool} {i : Fin n} :
    (List.finRange n).find? p = some i ↔ p i = true ∧ ∀ j < i, ¬ p j = true := by
  rw [List.find?_eq_some_iff_getElem]
  refine and_congr_right fun _ => ⟨?_, fun hfirst => ?_⟩
  · rintro ⟨k, hk, hki, hfirst⟩ j hj
    rw [List.getElem_finRange] at hki
    subst hki
    have hj' := hfirst j.val hj
    rw [List.getElem_finRange, Bool.not_eq_true', ← Bool.not_eq_true] at hj'
    exact hj'
  · refine ⟨i.val, by rw [List.length_finRange]; exact i.isLt, List.getElem_finRange _, fun j hj => ?_⟩
    rw [List.getElem_finRange, Bool.not_eq_true', ← Bool.not_eq_true]
    exact hfirst _ hj

/-- The selected window is the lowest-numbered that matches (R26). -/
theorem State.selectWindow_eq_some {s : State} {r : Request} {i : WindowIndex} :
    s.selectWindow r = some i ↔
      s.windows[i].matchesRequest r = true ∧ ∀ j < i, ¬ s.windows[j].matchesRequest r = true :=
  find?_finRange_eq_some

theorem State.selectWindow_eq_none {s : State} {r : Request} :
    s.selectWindow r = none ↔ ∀ i : WindowIndex, ¬ s.windows[i].matchesRequest r = true :=
  List.find?_eq_none.trans ⟨fun h i => h i (List.mem_finRange i), fun h i _ => h i⟩

/-! ### What the selected window gives (R28, R30, R129) -/

section
variable {s : State} {r : Request} {i : WindowIndex}

theorem State.decisionFor_of_selected (h : s.selectWindow r = some i) :
    s.decisionFor r = s.windows[i].decision i := by
  simp [State.decisionFor, h]

theorem State.countHitFor_of_selected (h : s.selectWindow r = some i) :
    s.countHitFor r =
      { s with windows := s.windows.set i { s.windows[i] with hits := countHit s.windows[i].hits } } := by
  simp [State.countHitFor, h]

theorem State.offsetFor_of_selected (h : s.selectWindow r = some i) :
    s.offsetFor r = if s.windows[i].action = .list then some (s.windows[i].wordOffset r.addr) else none := by
  simp [State.offsetFor, h]

end

theorem countHit_eq (h : BitVec 16) : countHit h = if h = 0xFFFF then 0xFFFF else h + 1 := by
  unfold countHit
  split
  · assumption
  · rfl

/-- Within an aligned window of at most 2^12 bytes the word offset has room, and the base and four times the offset are the
address (R129). -/
theorem Window.base_add_wordOffset {w : Window} {a : WordAddr} (h : w.Aligned) (hlist : w.exponent.val ≤ 12)
    (hlo : w.base.toNat ≤ 4 * a.toNat) (hhi : 4 * a.toNat < w.base.toNat + 2 ^ w.exponent.val) :
    w.base.toNat + 4 * (w.wordOffset a).toNat = 4 * a.toNat := by
  obtain ⟨htwo, haligned, -⟩ := h
  have hsize : 2 ^ w.exponent.val ≤ 2 ^ 12 := Nat.pow_le_pow_right (by decide) hlist
  have hfour : w.base.toNat % 4 = 0 :=
    Nat.mod_eq_zero_of_dvd (Nat.dvd_trans (Nat.pow_dvd_pow 2 htwo) (Nat.dvd_of_mod_eq_zero haligned))
  have hle : w.base ≤ byteAddr a := by rw [BitVec.le_def, toNat_byteAddr]; exact hlo
  have hoffset : (w.wordOffset a).toNat = (4 * a.toNat - w.base.toNat) / 4 % 2 ^ 10 := by
    simp only [Window.wordOffset, BitVec.toNat_setWidth, BitVec.toNat_ushiftRight, BitVec.toNat_sub_of_le hle,
      toNat_byteAddr, Nat.shiftRight_eq_div_pow]
  omega

/-- Settles O9: the statement's test of one window is `Window.matchesRequest`, and the selection is the first to pass it. -/
theorem windowSelection : Obligations.WindowSelection := by
  intro s r
  simp only [← Window.matchesRequest_iff]
  refine ⟨fun i => State.selectWindow_eq_some, State.selectWindow_eq_none, fun i hi => ⟨?_, ?_, ?_, ?_⟩, fun hnone => ?_⟩
  · exact State.decisionFor_of_selected hi
  · rw [State.countHitFor_of_selected hi, countHit_eq]
  · intro hact
    rw [State.offsetFor_of_selected hi, if_neg hact]
  · intro hact haligned
    obtain ⟨-, hlo, hhi, -⟩ := Window.matchesRequest_iff.1 (State.selectWindow_eq_some.1 hi).1
    exact ⟨_, by rw [State.offsetFor_of_selected hi, if_pos hact],
      Window.base_add_wordOffset (haligned i) ((haligned i).2.2 hact) hlo hhi⟩
  · simp [State.decisionFor, State.countHitFor, State.offsetFor, hnone, Decision.unmatched]

end Sys2Proof.Machine

namespace Sys2Proof.Machine

-- One proof at a time: proofs in parallel wait for one another on threads of their own, each with its stack.
set_option Elab.async false

/-! ### Codes of a window entry, read and written (R177) -/

@[simp] theorem byteOf_toNat (b : Byte) : byteOf b.toNat = b := by simp [byteOf]

theorem byteOf_of_finOf {n : Nat} {b : Byte} {i : Fin n} (h : finOf n b.toNat = some i) : byteOf i.val = b := by
  rw [finOf_eq_some.1 h, byteOf_toNat]

theorem filterOf_eq_some {c : BitVec 2} {f : Filter} : filterOf c = some f ↔ filterCode f = c := by
  revert c; cases f <;> decide

theorem actionCode_actionOf (c : BitVec 2) : actionCode (actionOf c) = c := by
  revert c; decide

theorem actionOf_eq_list {c : BitVec 2} : actionOf c = .list ↔ c.toNat = 3 := by
  revert c; decide

theorem deadlineActionCode_of_some {b : Byte} {x : DeadlineAction} (h : deadlineActionOf b = some x) :
    deadlineActionCode x = b := by
  unfold deadlineActionOf at h
  split at h
  · next hb => cases h; exact hb.symm
  · split at h
    · next hb => cases h; exact hb.symm
    · split at h
      · next hb => cases h; exact hb.symm
      · cases h

theorem codeOrNone_of_readListOf {b : Byte} {r : Option ListOrdinal} (h : readListOf b = some r) :
    codeOrNone r = b := by
  unfold readListOf at h
  split at h
  · next hff => cases h; exact hff.symm
  · obtain ⟨l, hl, rfl⟩ := Option.map_eq_some_iff.1 h
    exact byteOf_of_finOf hl

theorem writeListCode_of_writeListOf {b : Byte} {r : Option ListOrdinal} (h : writeListOf b = some r) :
    writeListCode r = b := by
  unfold writeListOf at h
  split at h
  · next hff => cases h; exact hff.symm
  · split at h
    · obtain ⟨l, hl, rfl⟩ := Option.map_eq_some_iff.1 h
      have hval : 4 + l.val = b.toNat := by have := finOf_eq_some.1 hl; omega
      rw [writeListCode, hval, byteOf_toNat]
    · cases h

/-- The fields of a control byte with bits 7..5 zero put together again. -/
theorem control_of_fields {c : Byte} (h : c.extractLsb' 5 3 = 0) :
    (0#3) ++ c.extractLsb' 3 2 ++ c.extractLsb' 1 2 ++ bit (c.getLsbD 0) = c := by
  have hbit : bit (c.getLsbD 0) = c.extractLsb' 0 1 := by
    apply BitVec.eq_of_getLsbD_eq
    simp [bit]
  rw [hbit, show (0#3) = c.extractLsb' 5 3 from h.symm]
  rw [BitVec.extractLsb'_append_extractLsb'_eq_extractLsb' (by rfl),
    BitVec.extractLsb'_append_extractLsb'_eq_extractLsb' (by rfl),
    BitVec.extractLsb'_append_extractLsb'_eq_extractLsb' (by rfl)]
  exact BitVec.extractLsb'_eq_self

/-! ### The ranges of R31 -/

theorem exists_finOf_iff {n b : Nat} : (∃ i, finOf n b = some i) ↔ b < n :=
  ⟨fun ⟨i, hi⟩ => finOf_eq_some.1 hi ▸ i.isLt, fun h => ⟨⟨b, h⟩, finOf_eq_some.2 rfl⟩⟩

theorem exists_exponentOf_iff {b : Byte} : (∃ e, exponentOf b = some e) ↔ 2 ≤ b.toNat ∧ b.toNat ≤ 31 := by
  constructor
  · rintro ⟨e, he⟩
    obtain ⟨htwo, hval⟩ := exponentOf_eq_some.1 he
    omega
  · rintro ⟨htwo, hle⟩
    exact ⟨⟨b.toNat, by omega⟩, exponentOf_eq_some.2 ⟨htwo, rfl⟩⟩

theorem exists_filterOf_iff {c : BitVec 2} : (∃ f, filterOf c = some f) ↔ c.toNat ≤ 2 := by
  simp only [← Option.isSome_iff_exists]
  revert c; decide

theorem exists_deadlineActionOf_iff {b : Byte} : (∃ x, deadlineActionOf b = some x) ↔ b.toNat ≤ 2 := by
  constructor
  · rintro ⟨x, hx⟩
    rw [← deadlineActionCode_of_some hx]
    cases x <;> decide
  · intro hle
    have hb : b = 0x00 ∨ b = 0x01 ∨ b = 0x02 := by bv_omega
    rcases hb with rfl | rfl | rfl
    · exact ⟨.release, rfl⟩
    · exact ⟨.refuse, rfl⟩
    · exact ⟨.fill, rfl⟩

theorem exists_readListOf_iff {b : Byte} : (∃ r, readListOf b = some r) ↔ b.toNat ≤ 3 ∨ b = 0xFF := by
  unfold readListOf
  split
  · next hff => simp [hff]
  · next hff =>
    simp only [Option.map_eq_some_iff, hff, or_false]
    rw [exists_comm, ← Nat.lt_succ_iff, ← exists_finOf_iff]
    simp

theorem exists_writeListOf_iff {b : Byte} :
    (∃ r, writeListOf b = some r) ↔ (4 ≤ b.toNat ∧ b.toNat ≤ 7) ∨ b = 0xFF := by
  unfold writeListOf
  split
  · next hff => simp [hff]
  · next hff =>
    split
    · next hfour =>
      have hle : b.toNat ≤ 7 ↔ b.toNat - 4 < 4 := by omega
      simp only [Option.map_eq_some_iff, hff, or_false, hfour, true_and, hle]
      rw [exists_comm, ← exists_finOf_iff]
      simp
    · next hfour => simpa [hfour] using hff

theorem reservedBits_iff {c : Byte} : c.extractLsb' 5 3 = 0 ↔ c.toNat < 32 := by
  rw [← BitVec.toNat_inj]
  simp only [BitVec.extractLsb'_toNat, Nat.shiftRight_eq_div_pow]
  have := c.isLt
  simp
  omega

/-- A payload passes the tests of R31 that do not look at the index. -/
def FieldsOk (w : WindowImage) : Prop :=
  2 ≤ w.exponent.toNat ∧ w.exponent.toNat ≤ 31 ∧
  (w.control.extractLsb' 1 2).toNat ≤ 2 ∧ w.control.toNat < 32 ∧ w.cls.toNat ≤ 5 ∧ w.deadlineCode.toNat ≤ 15 ∧
  w.deadlineAction.toNat ≤ 2 ∧ (w.readList.toNat ≤ 3 ∨ w.readList = 0xFF) ∧
  ((4 ≤ w.writeList.toNat ∧ w.writeList.toNat ≤ 7) ∨ w.writeList = 0xFF) ∧
  ¬ ((w.control.extractLsb' 3 2).toNat = 3 ∧ 12 < w.exponent.toNat)

theorem exists_windowOf_iff {w : WindowImage} : (∃ win, windowOf w = some win) ↔ FieldsOk w := by
  constructor
  · rintro ⟨win, hwin⟩
    obtain ⟨e, f, c, k, x, rl, wl, he, hf, hc, hk, hx, hrl, hwl, ⟨hbits, hlist⟩, -⟩ := windowOf_eq_some.1 hwin
    obtain ⟨htwo, hle⟩ := exists_exponentOf_iff.1 ⟨e, he⟩
    rw [actionOf_eq_list, (exponentOf_eq_some.1 he).2] at hlist
    exact ⟨htwo, hle, exists_filterOf_iff.1 ⟨f, hf⟩, reservedBits_iff.1 hbits, Nat.le_of_lt_succ (exists_finOf_iff.1 ⟨c, hc⟩),
      Nat.le_of_lt_succ (exists_finOf_iff.1 ⟨k, hk⟩), exists_deadlineActionOf_iff.1 ⟨x, hx⟩,
      exists_readListOf_iff.1 ⟨rl, hrl⟩, exists_writeListOf_iff.1 ⟨wl, hwl⟩, hlist⟩
  · rintro ⟨htwo, hle, hf, hbits, hc, hk, hx, hrl, hwl, hlist⟩
    obtain ⟨e, he⟩ := exists_exponentOf_iff.2 ⟨htwo, hle⟩
    obtain ⟨f, hf⟩ := exists_filterOf_iff.2 hf
    obtain ⟨c, hc⟩ := exists_finOf_iff.2 (Nat.lt_succ_of_le hc)
    obtain ⟨k, hk⟩ := exists_finOf_iff.2 (Nat.lt_succ_of_le hk)
    obtain ⟨x, hx⟩ := exists_deadlineActionOf_iff.2 hx
    obtain ⟨rl, hrl⟩ := exists_readListOf_iff.2 hrl
    obtain ⟨wl, hwl⟩ := exists_writeListOf_iff.2 hwl
    rw [← actionOf_eq_list, ← (exponentOf_eq_some.1 he).2] at hlist
    exact ⟨_, windowOf_eq_some.2
      ⟨e, f, c, k, x, rl, wl, he, hf, hc, hk, hx, hrl, hwl, ⟨reservedBits_iff.2 hbits, hlist⟩, rfl⟩⟩

/-- The window of a payload that passes R31, field by field (R32, R34, R177). -/
structure Window.Stores (win : Window) (w : WindowImage) : Prop where
  valid          : win.valid = w.control.getLsbD 0
  exponent       : win.exponent.val = w.exponent.toNat
  base           : win.base.toNat = w.base.toNat / 2 ^ w.exponent.toNat * 2 ^ w.exponent.toNat
  filter         : filterCode win.filter = w.control.extractLsb' 1 2
  action         : actionCode win.action = w.control.extractLsb' 3 2
  reserved       : w.control.extractLsb' 5 3 = 0
  masters        : win.masters = w.masters
  cls            : win.cls.val = w.cls.toNat
  deadlineCode   : win.deadlineCode.val = w.deadlineCode.toNat
  deadlineAction : deadlineActionCode win.deadlineAction = w.deadlineAction
  fill           : win.fill = w.fill
  readList       : codeOrNone win.readList = w.readList
  writeList      : writeListCode win.writeList = w.writeList
  hits           : win.hits = 0

theorem Window.Stores.of_windowOf {w : WindowImage} {win : Window} (h : windowOf w = some win) : win.Stores w := by
  obtain ⟨e, f, c, k, x, rl, wl, he, hf, hc, hk, hx, hrl, hwl, ⟨hbits, -⟩, rfl⟩ := windowOf_eq_some.1 h
  have hexp := (exponentOf_eq_some.1 he).2
  exact { valid := rfl, exponent := hexp, base := by rw [← hexp]; exact toNat_alignBase _ _,
          filter := filterOf_eq_some.1 hf, action := actionCode_actionOf _, reserved := hbits, masters := rfl,
          cls := finOf_eq_some.1 hc, deadlineCode := finOf_eq_some.1 hk,
          deadlineAction := deadlineActionCode_of_some hx, fill := rfl, readList := codeOrNone_of_readListOf hrl,
          writeList := writeListCode_of_writeListOf hwl, hits := rfl }

theorem Window.Stores.windowControl {w : WindowImage} {win : Window} (h : win.Stores w) :
    windowControl win = w.control := by
  rw [Machine.windowControl, h.action, h.filter, h.valid]
  exact control_of_fields h.reserved

/-! ### WRITE WINDOW and READ WINDOW on a link that takes them -/

theorem exec_writeWindow_ready {s : State} (h : s.LinkReady) (w : WindowImage) :
    exec (.writeWindow w) s = .next ((cmdWriteWindow w s).1.answerWith 17 (cmdWriteWindow w s).2) :=
  sendFrame_ready h (.writeWindow w) fun s => s.execute 17 (cmdWriteWindow w)

theorem exec_readWindow_ready {s : State} (h : s.LinkReady) (index flag : Byte) :
    exec (.readWindow index flag) s =
      .next ((cmdReadWindow index flag s).1.answerWith 2 (cmdReadWindow index flag s).2) :=
  sendFrame_ready h (.readWindow index flag) fun s => s.execute 2 (cmdReadWindow index flag)

theorem cmdWriteWindow_of_some {w : WindowImage} {i : WindowIndex} {win : Window} (hi : finOf 24 w.index.toNat = some i)
    (hwin : windowOf w = some win) (s : State) :
    cmdWriteWindow w s = ((s.setWindow i win).openEpisode, replyOnly (if win.base = w.base then .ok else .adjusted)) := by
  simp [cmdWriteWindow, hi, hwin]

theorem cmdWriteWindow_of_not {w : WindowImage}
    (h : ¬ ((∃ i, finOf 24 w.index.toNat = some i) ∧ ∃ win, windowOf w = some win)) (s : State) :
    cmdWriteWindow w s = (s, replyOnly .badParam) := by
  unfold cmdWriteWindow
  split
  · next i win hi hwin => exact absurd ⟨⟨i, hi⟩, win, hwin⟩ h
  · rfl

/-- Settles O33: R31's tests are those of the index and of `windowOf`, whose fields `Window.Stores` names. -/
theorem writeWindowReplacesTheWindow : Obligations.WriteWindowReplacesTheWindow := by
  intro w s hready
  have hsound : ((∃ i, finOf 24 w.index.toNat = some i) ∧ ∃ win, windowOf w = some win) ↔
      w.index.toNat ≤ 23 ∧ FieldsOk w := by
    rw [exists_finOf_iff, exists_windowOf_iff, Nat.lt_succ_iff]
  refine ⟨fun hnot => ?_, fun hok => ?_⟩
  · rw [exec_writeWindow_ready hready, cmdWriteWindow_of_not (fun h => hnot (hsound.1 h))]
  · obtain ⟨⟨i, hi⟩, win, hwin⟩ := hsound.2 hok
    have hst := Window.Stores.of_windowOf hwin
    refine ⟨i, win, finOf_eq_some.1 hi, hst.valid, hst.exponent, hst.base, hst.filter, hst.action, hst.masters, hst.cls,
      hst.deadlineCode, hst.deadlineAction, hst.fill, hst.readList, hst.writeList, hst.hits, ?_⟩
    rw [exec_writeWindow_ready hready, cmdWriteWindow_of_some hi hwin]
    rfl

theorem cmdReadWindow_of_some {index flag : Byte} {i : WindowIndex} {clear : Bool}
    (hi : finOf 24 index.toNat = some i) (hflag : flagOf flag = some clear) (s : State) :
    cmdReadWindow index flag s =
      (if clear then s.setWindow i { s.windows[i] with hits := 0 } else s,
        replyOk (windowEntryBytes i s.windows[i] ++ bytesOfHalf s.windows[i].hits)) := by
  simp [cmdReadWindow, hi, hflag]

theorem flagOf_eq_none {b : Byte} (h : 2 ≤ b.toNat) : flagOf b = none := by
  have h0 : b ≠ 0x00 := by bv_omega
  have h1 : b ≠ 0x01 := by bv_omega
  rw [flagOf, if_neg h0, if_neg h1]

theorem cmdReadWindow_of_bad {index flag : Byte} (h : 24 ≤ index.toNat ∨ 2 ≤ flag.toNat) (s : State) :
    cmdReadWindow index flag s = (s, replyOnly .badParam) := by
  unfold cmdReadWindow
  split
  · next i clear hi hflag =>
    rcases h with hindex | hbad
    · exact absurd (exists_finOf_iff.1 ⟨i, hi⟩) (by omega)
    · rw [flagOf_eq_none hbad] at hflag
      cases hflag
  · rfl

/-- The 17 bytes of a window are those it was written with, but for the base (R36, R177). -/
theorem windowEntryBytes_of_windowOf {w : WindowImage} {i : WindowIndex} {win : Window} (h : windowOf w = some win)
    (hi : i.val = w.index.toNat) :
    windowEntryBytes i win = [w.index] ++ bytesOfWord win.base ++
      [w.exponent, w.control, w.masters, w.cls, w.deadlineCode, w.deadlineAction] ++ bytesOfWord w.fill ++
      [w.readList, w.writeList] := by
  have hst := Window.Stores.of_windowOf h
  simp only [windowEntryBytes, hi, hst.exponent, hst.windowControl, hst.masters, hst.cls, hst.deadlineCode,
    hst.deadlineAction, hst.fill, hst.readList, hst.writeList, byteOf_toNat]

/-- Settles O34: the three outcomes of READ WINDOW, and the bytes of a window that WRITE WINDOW stored. -/
theorem readWindowReturnsTheEntry : Obligations.ReadWindowReturnsTheEntry := by
  refine ⟨fun index flag s hready => ⟨fun hbad => ?_, fun i hi => ⟨?_, ?_⟩⟩,
    fun w i win hwin hi => windowEntryBytes_of_windowOf hwin hi⟩
  · rw [exec_readWindow_ready hready, cmdReadWindow_of_bad hbad]
  · rintro rfl
    rw [exec_readWindow_ready hready, cmdReadWindow_of_some (finOf_eq_some.2 hi) (clear := false) rfl]
    rfl
  · rintro rfl
    rw [exec_readWindow_ready hready, cmdReadWindow_of_some (finOf_eq_some.2 hi) (clear := true) rfl]
    rfl

end Sys2Proof.Machine

namespace Sys2Proof.Machine

-- One proof at a time: proofs in parallel wait for one another on threads of their own, each with its stack.
set_option Elab.async false

/-! ### Timers in time: the pool's deadlines and the link's timer -/

/-- A timer that does not run, or is at most one tick past its time (R49). -/
def InTime (now : Nat) (due : Option Nat) : Prop := ∀ t ∈ due, now ≤ t + 1

/-- Every deadline of the pool is in time (R49). -/
def State.PoolTimely (s : State) : Prop := ∀ sl ∈ s.pool, InTime s.now sl.deadline

/-- The gap timer and the quiesce timer are in time (R159, R167). -/
def State.LinkTimely (s : State) : Prop := InTime s.now s.gapDue ∧ InTime s.now s.quiesceDue

theorem inTime_iff {now : Nat} {due : Option Nat} :
    InTime now due ↔ due.all (fun t => decide (now ≤ t + 1)) = true := by
  cases due <;> simp [InTime]

theorem State.timersTimely_iff {s : State} : s.TimersTimely ↔ s.PoolTimely ∧ s.LinkTimely := by
  simp only [State.TimersTimely, State.PoolTimely, State.LinkTimely, inTime_iff]

@[simp] theorem InTime.none (now : Nat) : InTime now none := fun _ h => nomatch h

@[simp] theorem InTime.zero (due : Option Nat) : InTime 0 due := fun _ _ => Nat.zero_le _

/-- A timer started now is in time, whatever its duration. -/
theorem InTime.started (now d : Nat) : InTime now (some (now + d)) := by simp [InTime]; omega

theorem InTime.deadlineFrom (now code : Nat) : InTime now (deadlineFrom now code) := by
  unfold Machine.deadlineFrom
  cases deadlineTicks code with
  | none => exact .none now
  | some d => exact .started now d

/-- A timer that is in time and may still wait for a tick is in time after it (R49). -/
theorem InTime.tick {now : Nat} {due : Option Nat} (h : ∀ t ∈ due, ¬ t + 1 ≤ now) : InTime (now + 1) due := by
  intro t ht
  have := h t ht
  omega

section
variable {s t : State}

/-- The pool's part depends on the timebase and the pool alone. -/
theorem State.PoolTimely.of_eq (h : s.PoolTimely) (hpool : t.pool = s.pool) (hnow : t.now = s.now) : t.PoolTimely := by
  simpa only [State.PoolTimely, hpool, hnow] using h

/-- The link's part depends on the timebase and the link alone. -/
theorem State.LinkTimely.of_eq (h : s.LinkTimely) (hlink : t.link = s.link) (hnow : t.now = s.now) : t.LinkTimely := by
  simpa only [State.LinkTimely, State.gapDue, State.quiesceDue, hlink, hnow] using h

theorem State.LinkTimely.of_idle (hlink : s.link = .idle) : s.LinkTimely := by
  simp [State.LinkTimely, State.gapDue, State.quiesceDue, hlink]

theorem State.LinkTimely.of_responding {n : Nat} {frame : List Byte} {taken : Nat}
    (hlink : s.link = .responding n frame taken) : s.LinkTimely := by
  simp [State.LinkTimely, State.gapDue, State.quiesceDue, hlink]

theorem State.LinkTimely.of_receiving {bytes : List Byte} (hlink : s.link = .receiving bytes s.now) :
    s.LinkTimely := by
  simp [State.LinkTimely, State.gapDue, State.quiesceDue, hlink, InTime.started]

theorem State.LinkTimely.of_discarding (hlink : s.link = .discarding s.now) : s.LinkTimely := by
  simp [State.LinkTimely, State.gapDue, State.quiesceDue, hlink, InTime.started]

theorem State.LinkTimely.of_executing {n : Nat} (hlink : s.link = .executing n s.now) : s.LinkTimely := by
  simp [State.LinkTimely, State.gapDue, State.quiesceDue, hlink, InTime.started]

/-! ### The pool's deadlines along the shared operations -/

theorem State.PoolTimely.openEpisode (h : s.PoolTimely) : s.openEpisode.PoolTimely := h.of_eq (by simp) (by simp)

theorem State.PoolTimely.settle (h : s.PoolTimely) : s.settle.PoolTimely := h.of_eq (by simp) (by simp)

theorem State.PoolTimely.of_pool_nil (h : s.pool = []) : s.PoolTimely := by simp [State.PoolTimely, h]

/-- A record that enters the pool starts its deadline now (R43, R44). -/
theorem State.PoolTimely.hold (h : s.PoolTimely) (i : TransitIndex) (how : HowHeld) (code : Nat) :
    (s.hold i how code).PoolTimely := by
  intro sl hsl
  rw [State.hold_pool, List.mem_append, List.mem_singleton] at hsl
  rcases hsl with hold | rfl
  · exact h sl hold
  · exact .deadlineFrom s.now code

theorem State.PoolTimely.dropSlot (h : s.PoolTimely) (i : TransitIndex) : (s.dropSlot i).PoolTimely :=
  fun sl hsl => h sl (List.mem_filter.1 hsl).1

/-- A rewrite of one record keeps the pool in time when it keeps that record's deadline so. -/
theorem State.PoolTimely.updateSlot (h : s.PoolTimely) (i : TransitIndex) {f : Slot → Slot}
    (hf : ∀ sl ∈ s.pool, InTime s.now (f sl).deadline) : (s.updateSlot i f).PoolTimely := by
  intro sl hsl
  rw [State.updateSlot_pool, List.mem_map] at hsl
  obtain ⟨x, hx, rfl⟩ := hsl
  split
  · exact hf x hx
  · exact h x hx

theorem State.PoolTimely.carryOut (h : s.PoolTimely) (i : TransitIndex) : (s.carryOut i).PoolTimely := by
  rcases s.carryOut_cases i with
    ⟨hs, -⟩ | hforward | ⟨how, code, hhold⟩ | ⟨_, _, _, -, -, hrefuse⟩ | ⟨_, -, hread⟩ | ⟨_, _, -, hwrite⟩
  · rwa [hs]
  · rw [hforward]; exact h
  · rw [hhold]; exact h.hold i how code
  · rw [hrefuse]; exact h
  · rw [hread]; split <;> exact h
  · rw [hwrite]; split <;> exact h

theorem State.PoolTimely.walkOne (h : s.PoolTimely) (i : TransitIndex) : (s.walkOne i).PoolTimely := by
  have hleft : ({ s with blocked := s.blocked.filter fun j => decide (j ≠ i) }).PoolTimely := h.of_eq rfl rfl
  exact hleft.carryOut i

theorem State.PoolTimely.walk (h : s.PoolTimely) (chain : List TransitIndex) : (s.walk chain).PoolTimely :=
  State.walk_induction (fun _ i hu => hu.walkOne i) chain s h

theorem State.PoolTimely.depart (h : s.PoolTimely) (sl : Slot) (e : Entry) (dest : Departure) :
    (s.depart sl e dest).PoolTimely :=
  State.PoolTimely.walk ((h.dropSlot sl.entry).of_eq (by simp) (by simp)) _

theorem State.PoolTimely.expire (h : s.PoolTimely) (sl : Slot) : (s.expire sl).PoolTimely := by
  unfold State.expire
  split
  · exact h
  · split
    · exact h
    · next e _ _ d _ =>
      have hposted : (s.postDeadline (deadlineDetail sl e d)).PoolTimely := h.of_eq rfl rfl
      exact (hposted.depart _ _ _).settle

theorem State.PoolTimely.countHitFor (h : s.PoolTimely) (r : Request) : (s.countHitFor r).PoolTimely := by
  unfold State.countHitFor
  split <;> exact h

theorem State.PoolTimely.accept (h : s.PoolTimely) (i : TransitIndex) (r : Request) : (s.accept i r).PoolTimely := by
  unfold State.accept
  split
  · exact h
  · split
    · exact h.countHitFor r
    · exact State.PoolTimely.carryOut (s := (s.countHitFor r).enter i (s.acceptedEntry r .issueWait)) (h.countHitFor r) i

theorem State.PoolTimely.acceptHead (h : s.PoolTimely) : s.acceptHead.PoolTimely := by
  unfold State.acceptHead
  split
  · exact (h.accept _ _).settle
  · exact h

theorem State.PoolTimely.respond (h : s.PoolTimely) (i : TransitIndex) (e : Entry) (reply : MemReply) :
    (s.respond i e reply).PoolTimely := by
  cases reply <;> exact h

theorem State.PoolTimely.gapExpiry (h : s.PoolTimely) : s.gapExpiry.PoolTimely := by
  unfold State.gapExpiry
  split <;> exact h

theorem State.PoolTimely.quiesceTimeout (h : s.PoolTimely) : s.quiesceTimeout.PoolTimely := by
  unfold State.quiesceTimeout
  split <;> exact h

/-! ### The pool's deadlines along the framed commands -/

theorem State.PoolTimely.closeBy (h : s.PoolTimely) (sl : Slot) (e : Entry) (dest : Departure) :
    (s.closeBy sl e dest).1.PoolTimely :=
  (h.depart sl e dest).openEpisode

theorem State.PoolTimely.rewrite (h : s.PoolTimely) (i : TransitIndex) (e : Entry) (lanes : Lanes) (data : Word) :
    (s.rewrite i e lanes data).PoolTimely := h.of_eq rfl rfl

theorem State.PoolTimely.take (h : s.PoolTimely) : (cmdTake s).1.PoolTimely := by
  unfold cmdTake
  split
  · exact h
  · split
    · exact h
    · split
      · exact h
      · exact h.updateSlot _ fun sl hsl => h sl hsl

theorem State.PoolTimely.release (h : s.PoolTimely) (ctx : Byte) (ticket : Half) :
    (cmdRelease ctx ticket s).1.PoolTimely := by
  unfold cmdRelease
  split
  · exact h
  · split
    · exact h
    · exact h.closeBy _ _ _

theorem State.PoolTimely.releaseWithData (h : s.PoolTimely) (ctx : Byte) (ticket : Half) (lanes : Byte) (data : Word) :
    (cmdReleaseWithData ctx ticket lanes data s).1.PoolTimely := by
  unfold cmdReleaseWithData
  split
  · split
    · exact h
    · split
      · exact h
      · exact (h.rewrite _ _ _ _).closeBy _ _ _
  · exact h

theorem State.PoolTimely.answer (h : s.PoolTimely) (ctx : Byte) (ticket : Half) (data : Word) :
    (cmdAnswer ctx ticket data s).1.PoolTimely := by
  unfold cmdAnswer
  split
  · exact h
  · split
    · exact h
    · exact h.closeBy _ _ _

theorem State.PoolTimely.refuse (h : s.PoolTimely) (ctx : Byte) (ticket : Half) :
    (cmdRefuse ctx ticket s).1.PoolTimely := by
  unfold cmdRefuse
  split
  · exact h
  · split
    · exact h
    · exact h.closeBy _ _ _

/-- EXTEND starts the deadline again from now (R50). -/
theorem State.PoolTimely.extend (h : s.PoolTimely) (ctx : Byte) (ticket : Half) (code : Byte) :
    (cmdExtend ctx ticket code s).1.PoolTimely := by
  unfold cmdExtend
  split
  · split
    · exact h
    · exact h.updateSlot _ fun _ _ => .deadlineFrom s.now _
  · exact h

/-- A command that changes neither the timebase nor the pool. -/
def KeepsPool (cmd : State → State × Reply) : Prop := ∀ s, (cmd s).1.pool = s.pool ∧ (cmd s).1.now = s.now

theorem State.PoolTimely.of_keepsPool {cmd : State → State × Reply} (h : s.PoolTimely) (hcmd : KeepsPool cmd) :
    (cmd s).1.PoolTimely :=
  h.of_eq (hcmd s).1 (hcmd s).2

theorem keepsPool_writeWindow (w : WindowImage) : KeepsPool (cmdWriteWindow w) := by
  intro s
  unfold cmdWriteWindow
  split <;> simp

theorem keepsPool_readWindow (index flag : Byte) : KeepsPool (cmdReadWindow index flag) := by
  intro s
  unfold cmdReadWindow
  split
  · dsimp only; split <;> simp
  · simp

theorem keepsPool_setArbitration (order nesting floor suppressed notifyOn : Byte) :
    KeepsPool (cmdSetArbitration order nesting floor suppressed notifyOn) := by
  intro s
  unfold cmdSetArbitration
  split
  · simp
  · split <;> simp

theorem keepsPool_peek (ctx : Byte) : KeepsPool (cmdPeek ctx) := by
  intro s
  unfold cmdPeek
  split
  · simp
  · split <;> simp

theorem keepsPool_setList (list : Byte) (first length : Half) (control : Byte) :
    KeepsPool (cmdSetList list first length control) := by
  intro s
  unfold cmdSetList
  split
  · split <;> simp
  · split <;> simp
  · simp

theorem keepsPool_loadCells (start : Half) (words : List Word) : KeepsPool (cmdLoadCells start words) := by
  intro s
  unfold cmdLoadCells
  split
  · simp
  · split <;> simp

theorem keepsPool_armList (list : Byte) : KeepsPool (cmdArmList list) := by
  intro s
  unfold cmdArmList
  split
  · simp
  · dsimp only
    split
    · simp
    · split <;> simp
  · dsimp only
    split
    · simp
    · split
      · simp
      · split <;> simp

theorem keepsPool_disarmList (list : Byte) : KeepsPool (cmdDisarmList list) := by
  intro s
  unfold cmdDisarmList
  split <;> simp

theorem keepsPool_readList (list : Byte) : KeepsPool (cmdReadList list) := by
  intro s
  unfold cmdReadList
  split <;> simp

theorem keepsPool_drainCapture (list n : Byte) : KeepsPool (cmdDrainCapture list n) := by
  intro s
  unfold cmdDrainCapture
  split
  · split
    · simp
    · dsimp only
      split <;> simp
  · simp

theorem keepsPool_readAttention (cause : Byte) : KeepsPool (cmdReadAttention cause) := by
  intro s
  unfold cmdReadAttention
  split <;> simp

theorem keepsPool_clearAttention (causes : Half) : KeepsPool (cmdClearAttention causes) := by
  intro s
  unfold cmdClearAttention
  split <;> simp

theorem keepsPool_setAttentionEnable (causes : Half) : KeepsPool (cmdSetAttentionEnable causes) := by
  intro s
  unfold cmdSetAttentionEnable
  split <;> simp

theorem keepsPool_gate (code : Byte) : KeepsPool (cmdGate code) := by
  intro s
  unfold cmdGate
  split <;> simp

theorem State.PoolTimely.startQuiesce (h : s.PoolTimely) : s.startQuiesce.PoolTimely := by
  unfold State.startQuiesce
  refine State.PoolTimely.openEpisode ?_
  split <;> exact h

/-- Every framed command, executed (R161). -/
theorem State.PoolTimely.run (h : s.PoolTimely) (length : Nat) (c : Instr) : (s.run length c).PoolTimely := by
  cases c with
  | writeWindow w => exact h.of_keepsPool (keepsPool_writeWindow w)
  | readWindow index flag => exact h.of_keepsPool (keepsPool_readWindow index flag)
  | setArbitration o n f u y => exact h.of_keepsPool (keepsPool_setArbitration o n f u y)
  | take => exact h.take
  | peek ctx => exact h.of_keepsPool (keepsPool_peek ctx)
  | release ctx ticket => exact h.release ctx ticket
  | releaseWithData ctx ticket lanes data => exact h.releaseWithData ctx ticket lanes data
  | answer ctx ticket data => exact h.answer ctx ticket data
  | refuse ctx ticket => exact h.refuse ctx ticket
  | extend ctx ticket code => exact h.extend ctx ticket code
  | setList list first len control => exact h.of_keepsPool (keepsPool_setList list first len control)
  | loadCells start words => exact h.of_keepsPool (keepsPool_loadCells start words)
  | armList list => exact h.of_keepsPool (keepsPool_armList list)
  | disarmList list => exact h.of_keepsPool (keepsPool_disarmList list)
  | readList list => exact h.of_keepsPool (keepsPool_readList list)
  | drainCapture list n => exact h.of_keepsPool (keepsPool_drainCapture list n)
  | readAttention cause => exact h.of_keepsPool (keepsPool_readAttention cause)
  | clearAttention causes => exact h.of_keepsPool (keepsPool_clearAttention causes)
  | setAttentionEnable causes => exact h.of_keepsPool (keepsPool_setAttentionEnable causes)
  | gate code => exact h.of_keepsPool (keepsPool_gate code)
  | quiesce => exact h.startQuiesce
  | softReset => exact State.PoolTimely.openEpisode (.of_pool_nil rfl)
  | _ => exact h

/-! ### The pool's deadlines along the link -/

theorem State.PoolTimely.examine (h : s.PoolTimely) (op len : Byte) (payload : List Byte) (check : Byte) :
    (s.examine op len payload check).PoolTimely := by
  unfold State.examine
  split
  · exact h
  · split
    · exact h
    · exact h
    · exact h.run _ _

theorem State.PoolTimely.receive (h : s.PoolTimely) (bytes : List Byte) : (s.receive bytes).PoolTimely := by
  unfold State.receive
  split
  · split
    · exact h
    · split
      · exact State.PoolTimely.examine (s := { s with link := .idle }) h _ _ _ _
      · exact h
  · exact h

theorem State.PoolTimely.writeByte (h : s.PoolTimely) (b : Byte) : (s.writeByte b).PoolTimely := by
  unfold State.writeByte
  split
  · exact h
  · split
    · exact h.receive _
    · exact h.receive _
    all_goals exact h

/-! ### The link's timer along the shared operations -/

theorem State.LinkTimely.openEpisode (h : s.LinkTimely) : s.openEpisode.LinkTimely := h.of_eq (by simp) (by simp)

theorem State.LinkTimely.quiesceTest (h : s.LinkTimely) : s.quiesceTest.LinkTimely := by
  unfold State.quiesceTest
  split
  · split
    · exact h
    · exact .of_responding rfl
  all_goals exact h

theorem State.LinkTimely.settle (h : s.LinkTimely) : s.settle.LinkTimely := h.quiesceTest.openEpisode

theorem State.LinkTimely.expire (h : s.LinkTimely) (sl : Slot) : (s.expire sl).LinkTimely := by
  unfold State.expire
  split
  · exact h
  · split
    · exact h
    · exact State.LinkTimely.settle (h.of_eq (by simp) (by simp))

theorem State.LinkTimely.countHitFor (h : s.LinkTimely) (r : Request) : (s.countHitFor r).LinkTimely := by
  unfold State.countHitFor
  split <;> exact h

theorem State.LinkTimely.accept (h : s.LinkTimely) (i : TransitIndex) (r : Request) : (s.accept i r).LinkTimely := by
  unfold State.accept
  split
  · exact h
  · split
    · exact h.countHitFor r
    · exact (h.countHitFor r).of_eq (by simp [State.acceptDirect]) (by simp [State.acceptDirect])

theorem State.LinkTimely.acceptHead (h : s.LinkTimely) : s.acceptHead.LinkTimely := by
  unfold State.acceptHead
  split
  · exact (h.accept _ _).settle
  · exact h

theorem State.LinkTimely.respond (h : s.LinkTimely) (i : TransitIndex) (e : Entry) (reply : MemReply) :
    (s.respond i e reply).LinkTimely := by
  cases reply <;> exact h

theorem State.LinkTimely.gapExpiry (h : s.LinkTimely) : s.gapExpiry.LinkTimely := by
  unfold State.gapExpiry
  split
  · exact .of_idle rfl
  · exact .of_idle rfl
  all_goals exact h

theorem State.LinkTimely.quiesceTimeout (h : s.LinkTimely) : s.quiesceTimeout.LinkTimely := by
  unfold State.quiesceTimeout
  split
  · exact .of_responding rfl
  all_goals exact h

/-! ### The link's timer along the link -/

/-- QUIESCE starts its timer at its check byte, or answers at once (R167). -/
theorem State.LinkTimely.startQuiesce (s : State) : s.startQuiesce.LinkTimely := by
  unfold State.startQuiesce
  refine State.LinkTimely.openEpisode ?_
  split
  · exact .of_executing rfl
  · exact .of_responding rfl

/-- A framed command leaves its response on the link, or QUIESCE's timer just started (R161). -/
theorem State.LinkTimely.run (h : s.LinkTimely) (length : Nat) (c : Instr) : (s.run length c).LinkTimely := by
  cases c with
  | quiesce => exact .startQuiesce s
  | headRequestPresented _ | acceptance | issue | memoryResponse _ _ | hostTake | hostReset | hresetNegation
  | powerOnReset | presetNegation | deadlineExpiry _ | gapTimerExpiry | quiesceCompletion | quiesceTimerExpiry
  | frameWrite _ | frameRead | abort _ => exact h
  | _ => exact .of_responding rfl

theorem State.LinkTimely.examine (h : s.LinkTimely) (op len : Byte) (payload : List Byte) (check : Byte) :
    (s.examine op len payload check).LinkTimely := by
  unfold State.examine
  split
  · exact .of_responding rfl
  · split
    · exact .of_responding rfl
    · exact .of_responding rfl
    · exact h.run _ _

/-- A byte received starts the gap timer, or ends the frame (R157, R158). -/
theorem State.LinkTimely.receive (s : State) (bytes : List Byte) : (s.receive bytes).LinkTimely := by
  unfold State.receive
  split
  · split
    · exact .of_discarding rfl
    · split
      · exact State.LinkTimely.examine (.of_idle rfl) _ _ _ _
      · exact .of_receiving rfl
  · exact .of_receiving rfl

theorem State.LinkTimely.writeByte (h : s.LinkTimely) (b : Byte) : (s.writeByte b).LinkTimely := by
  unfold State.writeByte
  split
  · exact h
  · split
    · exact .receive s _
    · exact .receive s _
    · exact .of_discarding rfl
    all_goals exact h

/-! ### Both parts along a step -/

/-- An event that keeps each part keeps both. -/
theorem State.TimersTimely.map (h : s.TimersTimely) (hpool : s.PoolTimely → t.PoolTimely)
    (hlink : s.LinkTimely → t.LinkTimely) : t.TimersTimely :=
  State.timersTimely_iff.2 ((State.timersTimely_iff.1 h).imp hpool hlink)

/-- An event that leaves the timebase, the pool and the link as they are. -/
theorem State.TimersTimely.of_eq (h : s.TimersTimely) (hpool : t.pool = s.pool) (hlink : t.link = s.link)
    (hnow : t.now = s.now) : t.TimersTimely :=
  h.map (fun hp => hp.of_eq hpool hnow) fun hl => hl.of_eq hlink hnow

theorem State.TimersTimely.openEpisode (h : s.TimersTimely) : s.openEpisode.TimersTimely :=
  h.of_eq (by simp) (by simp) (by simp)

theorem State.TimersTimely.settle (h : s.TimersTimely) : s.settle.TimersTimely :=
  h.map (fun hp => hp.settle) fun hl => hl.settle

theorem State.TimersTimely.expire (h : s.TimersTimely) (sl : Slot) : (s.expire sl).TimersTimely :=
  h.map (fun hp => hp.expire sl) fun hl => hl.expire sl

theorem State.TimersTimely.acceptHead (h : s.TimersTimely) : s.acceptHead.TimersTimely :=
  h.map (fun hp => hp.acceptHead) fun hl => hl.acceptHead

theorem State.TimersTimely.respond (h : s.TimersTimely) (i : TransitIndex) (e : Entry) (reply : MemReply) :
    (s.respond i e reply).TimersTimely :=
  h.map (fun hp => hp.respond i e reply) fun hl => hl.respond i e reply

theorem State.TimersTimely.gapExpiry (h : s.TimersTimely) : s.gapExpiry.TimersTimely :=
  h.map (fun hp => hp.gapExpiry) fun hl => hl.gapExpiry

theorem State.TimersTimely.quiesceTimeout (h : s.TimersTimely) : s.quiesceTimeout.TimersTimely :=
  h.map (fun hp => hp.quiesceTimeout) fun hl => hl.quiesceTimeout

theorem State.TimersTimely.quiesceTest (h : s.TimersTimely) : s.quiesceTest.TimersTimely :=
  h.map (fun hp => hp.of_eq (by simp) (by simp)) fun hl => hl.quiesceTest

theorem State.TimersTimely.run (h : s.TimersTimely) (length : Nat) (c : Instr) : (s.run length c).TimersTimely :=
  h.map (fun hp => hp.run length c) fun hl => hl.run length c

theorem State.TimersTimely.writeByte (h : s.TimersTimely) (b : Byte) : (s.writeByte b).TimersTimely :=
  h.map (fun hp => hp.writeByte b) fun hl => hl.writeByte b

theorem State.TimersTimely.writeBytes (h : s.TimersTimely) (bs : List Byte) : (s.writeBytes bs).TimersTimely := by
  induction bs generalizing s with
  | nil => exact h
  | cons b bs ih => exact ih (h.writeByte b)

/-- A read of the response ends it or leaves it RESPONDING, with no timer in either (R162). -/
theorem State.TimersTimely.readByte (h : s.TimersTimely) : s.readByte.TimersTimely := by
  unfold State.readByte
  split
  · exact h.of_eq rfl rfl rfl
  · split
    · next frame taken _ =>
      refine h.map (fun hp => hp.of_eq rfl rfl) fun _ => ?_
      by_cases hlast : frame.length ≤ taken + 1
      · exact .of_idle (if_pos hlast)
      · exact .of_responding (if_neg hlast)
    all_goals exact h.of_eq rfl rfl rfl

theorem State.TimersTimely.abort (h : s.TimersTimely) : ({ s with link := .idle }).TimersTimely :=
  h.map (fun hp => hp.of_eq rfl rfl) fun _ => .of_idle rfl

/-- A state whose timebase stands at 0: no timer can be late. -/
theorem State.TimersTimely.of_now_zero (h : s.now = 0) : s.TimersTimely :=
  State.timersTimely_iff.2 ⟨fun sl _ => h ▸ .zero sl.deadline, h ▸ .zero _, h ▸ .zero _⟩

/-- An empty pool and a link as it was: host reset, before its end-of-event tests (R18). -/
theorem State.TimersTimely.hostResetEvent (h : s.TimersTimely) : s.hostResetEvent.TimersTimely :=
  State.TimersTimely.settle (State.timersTimely_iff.2
    ⟨.of_pool_nil rfl, State.LinkTimely.of_eq (s := s) (State.timersTimely_iff.1 h).2 rfl rfl⟩)

/-- The row of a framed command with this execution on an IDLE link. -/
theorem State.TimersTimely.sendFrame (h : s.TimersTimely) {c : Instr} {effect : State → State}
    (heffect : (effect s).TimersTimely) (hstep : sendFrame c effect s = .next t) : t.TimersTimely := by
  unfold Machine.sendFrame at hstep
  cases hstep
  split
  · exact h
  · split
    · exact heffect
    · exact h.writeBytes _

/-- The row of a framed command, which a link that is IDLE executes. -/
theorem State.TimersTimely.framed (h : s.TimersTimely) {c : Instr} {length : Nat}
    (hstep : Machine.sendFrame c (fun u => u.run length c) s = .next t) : t.TimersTimely :=
  h.sendFrame (h.run length c) hstep

theorem State.TimersTimely.exec (h : s.TimersTimely) {c : Instr} (hstep : exec c s = .next t) : t.TimersTimely := by
  cases c with
  | headRequestPresented r =>
    simp only [Machine.exec, execHeadRequestPresented] at hstep
    split at hstep
    · cases hstep; exact h
    · cases hstep
      split
      · exact State.TimersTimely.openEpisode h
      · exact h
  | acceptance => cases hstep; exact h.acceptHead
  | issue =>
    simp only [Machine.exec, execIssue] at hstep
    split at hstep
    · cases hstep; exact State.TimersTimely.settle h
    · cases hstep; exact h
  | memoryResponse i reply =>
    simp only [Machine.exec, execMemoryResponse] at hstep
    split at hstep
    · cases hstep; exact h
    · split at hstep
      · cases hstep; exact (h.respond i _ reply).settle
      · cases hstep; exact State.TimersTimely.settle h
      all_goals cases hstep; exact h
  | hostTake =>
    simp only [Machine.exec, execHostTake] at hstep
    split at hstep
    · cases hstep; exact State.TimersTimely.settle h
    · cases hstep; exact h
  | hostReset =>
    cases hstep
    split
    · exact h
    · split
      · exact h
      · exact h.hostResetEvent
  | hresetNegation => cases hstep; exact h
  | powerOnReset => cases hstep; exact .of_now_zero rfl
  | presetNegation =>
    cases hstep
    split
    · exact .of_now_zero rfl
    · exact h
  | deadlineExpiry i =>
    simp only [Machine.exec, execDeadlineExpiry] at hstep
    split at hstep
    · cases hstep; exact h
    · cases hstep
      split
      · exact h.expire _
      · exact h
  | gapTimerExpiry =>
    cases hstep
    split
    · exact h.gapExpiry
    · exact h
  | quiesceCompletion => cases hstep; exact h.quiesceTest
  | quiesceTimerExpiry =>
    cases hstep
    split
    · exact h.quiesceTimeout
    · exact h
  | frameWrite b => cases hstep; exact h.writeByte b
  | frameRead => cases hstep; exact h.readByte
  | abort control =>
    cases hstep
    split
    · exact h
    · split
      · exact h.abort
      · exact h
  | loadCells start words =>
    simp only [Machine.exec, execLoadCells] at hstep
    split at hstep
    · cases hstep
    · refine h.sendFrame ?_ hstep
      split
      · exact h.run _ (.loadCells start words)
      · exact h.writeBytes _
  | quiesce => exact h.sendFrame (h.run 0 .quiesce) hstep
  | _ => exact h.framed hstep

/-! ### One tick -/

theorem not_reached_iff {due : Option Nat} {now slack : Nat} :
    ¬ reached due now slack = true ↔ ∀ t ∈ due, ¬ t + slack ≤ now := by
  cases due <;> simp [reached]

theorem Slot.not_overdue_iff {sl : Slot} {now : Nat} :
    ¬ sl.overdue now = true ↔ ∀ t ∈ sl.deadline, ¬ t + 1 ≤ now :=
  not_reached_iff (slack := 1)

/-- A tick counts only where every timer may still wait for one (R49). -/
theorem State.TimersTimely.tick (hpool : ∀ sl ∈ s.pool, ¬ sl.overdue s.now = true)
    (hgap : ¬ reached s.gapDue s.now 1 = true) (hquiesce : ¬ reached s.quiesceDue s.now 1 = true) :
    s.tick.TimersTimely :=
  State.timersTimely_iff.2 ⟨fun sl hsl => .tick (Slot.not_overdue_iff.1 (hpool sl hsl)),
    .tick (not_reached_iff.1 hgap), .tick (not_reached_iff.1 hquiesce)⟩

theorem State.TimersTimely.idle (h : s.TimersTimely) : s.idle.TimersTimely := by
  unfold State.idle
  split
  · exact h
  · split
    · exact h.acceptHead
    · split
      · exact h.expire _
      · next hpool =>
        split
        · exact h.gapExpiry
        · next hgap =>
          split
          · exact h.quiesceTimeout
          · next hquiesce => exact .tick (List.find?_eq_none.1 hpool) hgap hquiesce

end

/-- Settles O56: a tick waits for every timer that may wait no longer, and every other event starts a timer now, keeps it or
ends it. -/
theorem stepKeepsTimersTimely : Obligations.StepKeepsTimersTimely := by
  intro s t h hstep
  unfold step at hstep
  split at hstep
  · cases hstep; exact h.idle
  · next c rest _ => exact State.TimersTimely.exec (s := { s with pending := rest }) h hstep

end Sys2Proof.Machine

namespace Sys2Proof.Machine

-- One proof at a time: proofs in parallel wait for one another on threads of their own, each with its stack.
set_option Elab.async false

/-! ### The route and the chain at an index -/

theorem State.routeAt_of_entry {s : State} {i : TransitIndex} {e : Entry} (h : s.entry i = some e) :
    s.routeAt i = some e.route := by
  rw [State.routeAt, h]; rfl

theorem State.routeAt_congr {s t : State} {i : TransitIndex} (h : t.entry i = s.entry i) :
    t.routeAt i = s.routeAt i := by
  rw [State.routeAt, State.routeAt, h]

theorem State.routeIs_iff {s : State} {i : TransitIndex} {r : Route} :
    s.routeIs i r = true ↔ s.routeAt i = some r := by
  unfold State.routeIs State.routeAt
  cases s.entry i <;> simp

/-- The chain that the walk examines, by the chain of each BLOCKED entry (R64, R69). -/
theorem State.chain_eq (s : State) (m : Master) (line : BitVec 27) :
    s.chain m line = s.blocked.filter fun j => decide (s.chainOf j = some (m, line)) := by
  unfold State.chain
  refine List.filter_congr fun j _ => ?_
  unfold State.chainOf
  cases s.entry j <;> simp

/-! ### The departing entry -/

section
variable {s : State} {sl : Slot} {e : Entry}

/-- The close of a context frees it and moves the floor as `State.arbAfterClose` says (R81, R90). -/
theorem State.closeContext_eq (s : State) (c : ContextIndex) :
    s.closeContext c = { s with contexts := s.contexts.set c none, arb := s.arbAfterClose (some c) } := by
  have hcontexts := s.closeContext_contexts c
  unfold State.closeContext at hcontexts ⊢
  unfold State.arbAfterClose
  cases hc : s.context c with
  | none =>
    simp only [hc] at hcontexts ⊢
    rw [← hcontexts]
  | some o =>
    dsimp only
    rw [hc]
    cases ho : s.arb.order <;> rfl

/-- The steps of a departure that come before its walk (R52 steps 1 to 3). -/
theorem State.departed_eq (h : s.entry sl.entry = some e) (dest : Departure) :
    ((s.dropSlot sl.entry).routeDeparture sl.entry dest).closeSlotContext sl = s.departed sl e dest := by
  have hroute : ∀ r, ((s.entry sl.entry).map fun x => { x with route := r }) = some { e with route := r } := by
    simp [h]
  unfold State.closeSlotContext State.departed
  cases hc : sl.context with
  | none => cases dest <;> simp only [← hroute] <;> rfl
  | some c => cases dest <;> simp only [← hroute, State.closeContext_eq] <;> rfl

theorem State.entry_departed_self (dest : Departure) :
    (s.departed sl e dest).entry sl.entry = some { e with
      route := match dest with
        | .issue => .issueWait
        | .done r => .done r } :=
  State.entry_setEntry_self s sl.entry _

theorem State.entry_departed_ne {j : TransitIndex} (hj : j ≠ sl.entry) (dest : Departure) :
    (s.departed sl e dest).entry j = s.entry j :=
  State.entry_setEntry_ne s (Ne.symm hj) _

/-- A departure moves no entry to another chain. -/
theorem State.chainOf_departed (h : s.entry sl.entry = some e) (dest : Departure) (j : TransitIndex) :
    (s.departed sl e dest).chainOf j = s.chainOf j := by
  unfold State.chainOf
  by_cases hj : j = sl.entry
  · rw [hj, State.entry_departed_self, h]; rfl
  · rw [State.entry_departed_ne hj]

/-- A departure is its first steps and then the walk over the BLOCKED entries of the departing entry's chain (R52). -/
theorem State.depart_eq_walk (h : s.entry sl.entry = some e) (dest : Departure) :
    s.depart sl e dest = (s.departed sl e dest).walk
      (s.blocked.filter fun j => decide (s.chainOf j = some (e.req.master, lineOf e.req.addr))) := by
  unfold State.depart
  simp only [State.departed_eq h dest, State.chain_eq, State.chainOf_departed h]
  rfl

end

/-- Settles O20: with no BLOCKED entry on the chain the walk has nothing to examine. -/
theorem departureWithoutSuccessors : Obligations.DepartureWithoutSuccessors := by
  intro s sl e dest he hnone
  have hchain : s.blocked.filter (fun j => decide (s.chainOf j = some (e.req.master, lineOf e.req.addr))) = [] := by
    simpa using hnone
  rw [State.depart_eq_walk he dest, hchain]
  rfl

/-! ### What carrying out a decision makes of its entry -/

/-- The record of an entry that becomes HELD under this decision now (R43, R44, R70). -/
def State.heldSlot (s : State) (i : TransitIndex) (d : Decision) : Slot :=
  { entry := i
    heldSince := s.now
    deadline := deadlineFrom s.now d.deadlineCode.val
    how := if d.action = .trap then .trapWindow else .listFallback
    context := none }

theorem deadlineFrom_eq (now : Nat) (code : Fin 16) :
    deadlineFrom now code.val = if code = 0 then none else some (now + 2 ^ (code.val + 1)) := by
  unfold deadlineFrom deadlineTicks
  by_cases hcode : code = 0
  · simp [hcode]
  · rw [if_neg hcode, if_neg fun h : code.val = 0 => hcode (Fin.ext h)]; rfl

/-- The route a decision's action alone settles; action LIST leaves it to the list unit (R8). -/
structure Route.Follows (route : Route) (d : Decision) : Prop where
  pass   : d.action = .pass → route = .issueWait
  refuse : d.action = .refuse → route = .done .error
  trap   : d.action = .trap → route = .held

/-- Action LIST settles no route by itself. -/
theorem Route.Follows.of_list {d : Decision} (h : d.action = .list) (route : Route) : route.Follows d := by
  constructor <;> simp [h]

/-- The state `u` is `s` after entry i, which is x, has taken this route under decision d: it has joined the queue or the
pool of that route and no other (R8, R70). -/
structure State.Carries (s u : State) (i : TransitIndex) (x : Entry) (d : Decision) (route : Route) : Prop where
  entry   : u.entry i = some { x with route := route }
  issueQ  : u.issueQ = if route = .issueWait then s.issueQ ++ [i] else s.issueQ
  respQ   : u.respQ = if route.isDone = true then s.respQ ++ [i] else s.respQ
  pool    : u.pool = if route = .held then s.pool ++ [s.heldSlot i d] else s.pool
  follows : route.Follows d

section
variable {s : State} {i : TransitIndex} {x : Entry} {d : Decision}

theorem State.entry_setRoute_self {t : State} (he : t.entry i = some x) (r : Route) :
    (t.setRoute i r).entry i = some { x with route := r } := by
  rw [State.entry_setRoute, if_pos rfl, he]; rfl

/-- An entry forwarded, by action PASS or by the list unit. -/
theorem State.Carries.forward (he : s.entry i = some x) (hfollows : Route.Follows .issueWait d) :
    s.Carries (s.forward i) i x d .issueWait where
  entry := State.entry_setRoute_self he _
  issueQ := rfl
  respQ := rfl
  pool := rfl
  follows := hfollows

/-- An entry held, by action TRAP or by the list unit; the action says how. -/
theorem State.Carries.hold {how : HowHeld} (he : s.entry i = some x)
    (hhow : how = if d.action = .trap then .trapWindow else .listFallback) (hfollows : Route.Follows .held d) :
    s.Carries (s.hold i how d.deadlineCode.val) i x d .held where
  entry := State.entry_setRoute_self he _
  issueQ := rfl
  respQ := rfl
  pool := by rw [hhow]; rfl
  follows := hfollows

/-- An entry answered on a part that differs from `s` in the list unit alone. -/
theorem State.Carries.complete {t : State} (r : Response) (he : t.entry i = some x) (hissue : t.issueQ = s.issueQ)
    (hresp : t.respQ = s.respQ) (hpool : t.pool = s.pool) (hfollows : Route.Follows (.done r) d) :
    s.Carries (t.complete i r) i x d (.done r) where
  entry := State.entry_setRoute_self he _
  issueQ := hissue
  respQ := by simp [Route.isDone, hresp]
  pool := hpool
  follows := hfollows

/-- A posting leaves the entries, the queues and the pool alone. -/
theorem State.Carries.posted {u v : State} {route : Route} (h : s.Carries u i x d route)
    (hentries : v.entries = u.entries) (hissue : v.issueQ = u.issueQ) (hresp : v.respQ = u.respQ)
    (hpool : v.pool = u.pool) : s.Carries v i x d route where
  entry := (State.entry_congr hentries i).trans h.entry
  issueQ := hissue.trans h.issueQ
  respQ := hresp.trans h.respQ
  pool := hpool.trans h.pool
  follows := h.follows

/-- An entry refused, by action REFUSE or by the list unit. -/
theorem State.Carries.refuseEntry (he : s.entry i = some x) (src : RefusalSource)
    (hfollows : Route.Follows (.done .error) d) : s.Carries (s.refuseEntry i x d src) i x d (.done .error) :=
  State.Carries.posted (.complete .error he rfl rfl rfl hfollows) rfl rfl rfl rfl

/-- A request that meets a list's exhaustion action (R133). -/
theorem State.exhaust_carries (he : s.entry i = some x) (hact : d.action = .list) (a : Exhaustion) :
    ∃ route, s.Carries (s.exhaust i x d a) i x d route := by
  cases a with
  | pass => exact ⟨_, .forward he (.of_list hact _)⟩
  | trap => exact ⟨_, .hold he (by simp [hact]) (.of_list hact _)⟩
  | refuse => exact ⟨_, .refuseEntry he .list (.of_list hact _)⟩

theorem State.serveRead_carries (he : s.entry i = some x) (hact : d.action = .list) (l : ListOrdinal) :
    ∃ route, s.Carries (s.serveRead i x d l) i x d route := by
  unfold State.serveRead
  dsimp only
  split
  · refine ⟨.done (.okWord (readCell s.cells s.answerLists[l].position).data), ?_⟩
    split
    · exact State.Carries.posted (.complete _ he rfl rfl rfl (.of_list hact _)) rfl rfl rfl rfl
    · exact .complete _ he rfl rfl rfl (.of_list hact _)
  all_goals exact State.exhaust_carries he hact _

theorem State.serveWrite_carries (he : s.entry i = some x) (hact : d.action = .list) (l : ListOrdinal) (data : Word) :
    ∃ route, s.Carries (s.serveWrite i x d l data) i x d route := by
  unfold State.serveWrite
  dsimp only
  split
  · refine ⟨.done .ok, ?_⟩
    split
    · exact State.Carries.posted (.complete _ he rfl rfl rfl (.of_list hact _)) rfl rfl rfl rfl
    · exact .complete _ he rfl rfl rfl (.of_list hact _)
  all_goals exact State.exhaust_carries he hact _

/-- Service by the list unit finds the entry a route (R129 to R133). -/
theorem State.serve_carries (he : s.entry i = some x) (hact : d.action = .list) :
    ∃ route, s.Carries (s.serve i x d) i x d route := by
  unfold State.serve
  split
  · split
    · exact ⟨_, .forward he (.of_list hact _)⟩
    · exact State.serveRead_carries he hact _
  · split
    · exact ⟨_, .forward he (.of_list hact _)⟩
    · exact State.serveWrite_carries he hact _ _

/-- Carrying out a recorded decision finds the entry a route (R8). -/
theorem State.carryOut_carries (he : s.entry i = some x) (hd : x.decision = some d) :
    ∃ route, s.Carries (s.carryOut i) i x d route := by
  unfold State.carryOut
  rw [he]
  dsimp only
  rw [hd]
  dsimp only
  split
  · next hact => exact ⟨_, .forward he (by constructor <;> simp [hact])⟩
  · next hact => exact ⟨_, .refuseEntry he .window (by constructor <;> simp [hact])⟩
  · next hact => exact ⟨_, .hold he (by simp [hact]) (by constructor <;> simp [hact])⟩
  · next hact => exact State.serve_carries he hact

/-- One entry of the walk: to leave the blocked list first makes no difference to the queues and the pool. -/
theorem State.walkOne_carries (he : s.entry i = some x) (hd : x.decision = some d) :
    ∃ route, s.Carries (s.walkOne i) i x d route := by
  obtain ⟨route, h⟩ :=
    State.carryOut_carries (s := { s with blocked := s.blocked.filter fun j => decide (j ≠ i) }) he hd
  exact ⟨route, h.entry, h.issueQ, h.respQ, h.pool, h.follows⟩

theorem State.entry_walkOne_ne {j : TransitIndex} (h : j ≠ i) : (s.walkOne i).entry j = s.entry j :=
  State.carryOut_entry_ne _ (Ne.symm h)

end

/-! ### What the walk makes of the entries it examines -/

/-- The state `t` is `s` after these entries were examined in turn: each has left the blocked list and found a route, and
each queue holds at its tail those of them that joined it, in their order (R53, R69, R70). -/
structure State.Walked (s : State) (examined : List TransitIndex) (t : State) : Prop where
  now     : t.now = s.now
  blocked : t.blocked = s.blocked.filter fun j => decide (j ∉ examined)
  others  : ∀ j ∉ examined, t.entry j = s.entry j
  routed  : ∀ j ∈ examined, ∀ x d, s.entry j = some x → x.decision = some d →
    ∃ route : Route, t.entry j = some { x with route := route } ∧ route.Follows d
  issueQ  : t.issueQ = s.issueQ ++ examined.filter fun j => decide (t.routeAt j = some .issueWait)
  respQ   : t.respQ = s.respQ ++ examined.filter fun j => (t.routeAt j).any Route.isDone
  pool    : (∀ j ∈ examined, t.routeAt j ≠ some .held) → t.pool = s.pool

theorem State.Walked.nil (s : State) : s.Walked [] s where
  now := rfl
  blocked := (List.filter_eq_self.2 fun j _ => decide_eq_true (List.not_mem_nil (a := j))).symm
  others _ _ := rfl
  routed _ h := nomatch h
  issueQ := by simp
  respQ := by simp
  pool _ := rfl

section
variable {s u : State} {before : List TransitIndex} {j : TransitIndex} {x : Entry} {d : Decision}

/-- The entry examined next keeps the routes of those examined before it. -/
theorem State.routeAt_walkOne_of_mem (hj : j ∉ before) : ∀ k ∈ before, (u.walkOne j).routeAt k = u.routeAt k :=
  fun k hk => State.routeAt_congr (State.entry_walkOne_ne fun hkj : k = j => hj (hkj ▸ hk))

/-- One more entry examined. -/
theorem State.Walked.snoc (h : s.Walked before u) (hj : j ∉ before) (he : s.entry j = some x)
    (hd : x.decision = some d) : s.Walked (before ++ [j]) (u.walkOne j) := by
  obtain ⟨route, hc⟩ := State.walkOne_carries ((h.others j hj).trans he) hd
  have hold := State.routeAt_walkOne_of_mem (u := u) hj
  have hnew : (u.walkOne j).routeAt j = some route := State.routeAt_of_entry hc.entry
  have hissue : before.filter (fun k => decide ((u.walkOne j).routeAt k = some .issueWait)) =
      before.filter fun k => decide (u.routeAt k = some .issueWait) :=
    List.filter_congr fun k hk => by rw [hold k hk]
  have hresp : before.filter (fun k => ((u.walkOne j).routeAt k).any Route.isDone) =
      before.filter fun k => (u.routeAt k).any Route.isDone :=
    List.filter_congr fun k hk => by rw [hold k hk]
  refine { now := (State.carryOut_now _ j).trans h.now, blocked := ?blocked, others := ?others, routed := ?routed,
           issueQ := ?issueQ, respQ := ?respQ, pool := ?pool }
  case blocked =>
    rw [State.walkOne, State.carryOut_blocked, h.blocked, List.filter_filter]
    refine List.filter_congr fun k _ => ?_
    simp [and_comm]
  case others =>
    intro k hk
    simp only [List.mem_append, List.mem_singleton, not_or] at hk
    rw [State.entry_walkOne_ne hk.2, h.others k hk.1]
  case routed =>
    intro k hk y d' hy hd'
    by_cases hkj : k = j
    · subst hkj
      obtain rfl : x = y := Option.some.inj (he.symm.trans hy)
      obtain rfl : d = d' := Option.some.inj (hd.symm.trans hd')
      exact ⟨route, hc.entry, hc.follows⟩
    · have hk' : k ∈ before := by simpa [hkj] using hk
      rw [State.entry_walkOne_ne hkj]
      exact h.routed k hk' y d' hy hd'
  case issueQ =>
    rw [hc.issueQ, h.issueQ, List.filter_append, hissue]
    by_cases hr : route = .issueWait <;> simp [hnew, hr]
  case respQ =>
    rw [hc.respQ, h.respQ, List.filter_append, hresp]
    by_cases hr : route.isDone = true <;> simp [hnew, hr]
  case pool =>
    intro hheld
    have hroute : route ≠ .held := fun hr => hheld j (by simp) (hnew.trans (congrArg some hr))
    rw [hc.pool, if_neg hroute]
    exact h.pool fun k hk => hold k hk ▸ hheld k (by simp [hk])

/-- The entry examined next that becomes HELD has its record at the tail of the pool. -/
theorem State.Walked.pool_of_held (h : s.Walked before u) (hj : j ∉ before) (he : s.entry j = some x)
    (hd : x.decision = some d) (hbefore : ∀ k ∈ before, (u.walkOne j).routeAt k ≠ some .held)
    (hheld : (u.walkOne j).routeAt j = some .held) : (u.walkOne j).pool = s.pool ++ [s.heldSlot j d] := by
  obtain ⟨route, hc⟩ := State.walkOne_carries ((h.others j hj).trans he) hd
  have hroute : route = .held := Option.some.inj ((State.routeAt_of_entry hc.entry).symm.trans hheld)
  have hpool : u.pool = s.pool :=
    h.pool fun k hk => State.routeAt_walkOne_of_mem hj k hk ▸ hbefore k hk
  rw [hc.pool, if_pos hroute, hpool, State.heldSlot, State.heldSlot, h.now]

theorem nodup_snoc : (before ++ [j]).Nodup ↔ before.Nodup ∧ j ∉ before := by
  simp [List.nodup_append, List.forall_mem_ne']

/-- More distinct entries with recorded decisions, examined after those before. -/
theorem State.Walked.append (rest : List TransitIndex) (h : s.Walked before u) (hnodup : (before ++ rest).Nodup)
    (hdecided : ∀ j ∈ rest, ∃ x d, s.entry j = some x ∧ x.decision = some d) :
    s.Walked (before ++ rest) (rest.foldl State.walkOne u) := by
  induction rest generalizing before u with
  | nil => rwa [List.append_nil]
  | cons j rest ih =>
    obtain ⟨x, d, hx, hd⟩ := hdecided j List.mem_cons_self
    rw [List.append_cons] at hnodup ⊢
    obtain ⟨-, hj⟩ := nodup_snoc.1 (List.nodup_append.1 hnodup).1
    exact ih (h.snoc hj hx hd) hnodup fun k hk => hdecided k (List.mem_cons_of_mem j hk)

/-- Distinct entries with recorded decisions, examined one after another. -/
theorem State.walked_foldl {examined : List TransitIndex} (hnodup : examined.Nodup)
    (hdecided : ∀ j ∈ examined, ∃ x d, s.entry j = some x ∧ x.decision = some d) :
    s.Walked examined (examined.foldl State.walkOne s) :=
  (State.Walked.nil s).append examined hnodup hdecided

/-- The walk over distinct entries examines them in turn to the first that becomes HELD (R69). -/
theorem State.walk_stops {chain : List TransitIndex} (hnodup : chain.Nodup) (s : State) :
    ∃ examined behind, chain = examined ++ behind ∧ s.walk chain = examined.foldl State.walkOne s ∧
      ((behind = [] ∧ ∀ j ∈ examined, (s.walk chain).routeAt j ≠ some .held) ∨
       ∃ before j, examined = before ++ [j] ∧ (∀ k ∈ before, (s.walk chain).routeAt k ≠ some .held) ∧
         (s.walk chain).routeAt j = some .held) := by
  induction chain generalizing s with
  | nil => exact ⟨[], [], rfl, rfl, .inl ⟨rfl, fun _ h => nomatch h⟩⟩
  | cons i rest ih =>
    rw [State.walk_cons]
    obtain ⟨hi, hrest⟩ := List.nodup_cons.1 hnodup
    by_cases hheld : (s.walkOne i).routeIs i .held = true
    · rw [if_pos hheld]
      exact ⟨[i], rest, rfl, rfl, .inr ⟨[], i, rfl, fun _ h => (nomatch h), State.routeIs_iff.1 hheld⟩⟩
    · rw [if_neg hheld]
      obtain ⟨examined, behind, hchain, hwalk, hstop⟩ := ih hrest (s.walkOne i)
      have hfirst : ((s.walkOne i).walk rest).routeAt i ≠ some .held := by
        rw [State.routeAt_congr (State.walk_entry_ne rest _ hi)]
        exact fun h => hheld (State.routeIs_iff.2 h)
      refine ⟨i :: examined, behind, by rw [hchain]; rfl, hwalk, ?_⟩
      rcases hstop with ⟨hbehind, hnone⟩ | ⟨before, j, hexamined, hbefore, hj⟩
      · exact .inl ⟨hbehind, List.forall_mem_cons.2 ⟨hfirst, hnone⟩⟩
      · exact .inr ⟨i :: before, j, by rw [hexamined]; rfl, List.forall_mem_cons.2 ⟨hfirst, hbefore⟩, hj⟩

/-- What the walk leaves: the entries examined, and in the pool the record of the one that became HELD (R44, R69, R70). -/
theorem State.walk_walked {chain : List TransitIndex} (hnodup : chain.Nodup)
    (hdecided : ∀ j ∈ chain, ∃ x d, s.entry j = some x ∧ x.decision = some d) :
    ∃ examined behind, chain = examined ++ behind ∧ s.walk chain = examined.foldl State.walkOne s ∧
      s.Walked examined (s.walk chain) ∧
      ((behind = [] ∧ (∀ j ∈ examined, (s.walk chain).routeAt j ≠ some .held) ∧ (s.walk chain).pool = s.pool) ∨
       ∃ before j x d, examined = before ++ [j] ∧ (∀ k ∈ before, (s.walk chain).routeAt k ≠ some .held) ∧
         (s.walk chain).routeAt j = some .held ∧ s.entry j = some x ∧ x.decision = some d ∧
         (s.walk chain).pool = s.pool ++ [s.heldSlot j d]) := by
  obtain ⟨examined, behind, hchain, hwalk, hstop⟩ := State.walk_stops hnodup s
  have hex : examined.Nodup := (List.nodup_append.1 (hchain ▸ hnodup)).1
  have hdec : ∀ j ∈ examined, ∃ x d, s.entry j = some x ∧ x.decision = some d :=
    fun j hj => hdecided j (hchain ▸ List.mem_append_left behind hj)
  have hw : s.Walked examined (s.walk chain) := hwalk ▸ State.walked_foldl hex hdec
  refine ⟨examined, behind, hchain, hwalk, hw, ?_⟩
  rcases hstop with ⟨hbehind, hnone⟩ | ⟨before, j, rfl, hbefore, hheld⟩
  · exact .inl ⟨hbehind, hnone, hw.pool hnone⟩
  · obtain ⟨hbnodup, hj⟩ := nodup_snoc.1 hex
    obtain ⟨x, d, hx, hd⟩ := hdec j (by simp)
    have hwbefore := State.walked_foldl hbnodup fun k hk => hdec k (List.mem_append_left _ hk)
    refine .inr ⟨before, j, x, d, rfl, hbefore, hheld, hx, hd, ?_⟩
    rw [List.foldl_append] at hwalk
    rw [hwalk] at hbefore hheld ⊢
    exact hwbefore.pool_of_held hj hx hd hbefore hheld

end

/-! ### The chain of a consistent state -/

section
variable {s : State} {j : TransitIndex}

theorem State.Consistent.blocked_nodup (h : s.Consistent) : s.blocked.Nodup := by
  obtain ⟨⟨haccept, -, -, -, -, -, hblocked, -⟩, -⟩ := h
  exact hblocked ▸ haccept.filter _

theorem State.Consistent.routeAt_of_mem_blocked (h : s.Consistent) (hj : j ∈ s.blocked) :
    s.routeAt j = some .blocked := by
  obtain ⟨⟨-, -, -, -, -, -, hblocked, -⟩, -⟩ := h
  rw [hblocked] at hj
  simpa using (List.mem_filter.1 hj).2

theorem State.Consistent.routeAt_of_mem_pool {sl : Slot} (h : s.Consistent) (hsl : sl ∈ s.pool) :
    s.routeAt sl.entry = some .held := by
  obtain ⟨⟨-, -, -, -, -, -, -, -, hheld⟩, -⟩ := h
  exact (hheld sl.entry).1 (List.mem_map_of_mem hsl)

/-- A BLOCKED entry carries the decision formed at its acceptance (R28). -/
theorem State.Consistent.decided_of_mem_blocked (h : s.Consistent) (hj : j ∈ s.blocked) :
    ∃ x d, s.entry j = some x ∧ x.decision = some d := by
  obtain ⟨x, hx, hroute⟩ := Option.map_eq_some_iff.1 (h.routeAt_of_mem_blocked hj)
  obtain ⟨-, -, hkept, -⟩ := h
  have hsome : x.decision.isSome = true := by simpa [hx, hroute, Route.blocksLine] using hkept j
  obtain ⟨d, hd⟩ := Option.isSome_iff_exists.1 hsome
  exact ⟨x, d, hx, hd⟩

end

/-- The departing entry joins its queue ahead of its successors (R52 step 2). -/
theorem State.issueQ_departed (s : State) (sl : Slot) (e : Entry) (dest : Departure) :
    (s.departed sl e dest).issueQ =
      s.issueQ ++ [sl.entry].filter fun j => decide ((s.departed sl e dest).routeAt j = some .issueWait) := by
  have hroute := State.routeAt_of_entry (State.entry_departed_self (s := s) (sl := sl) (e := e) dest)
  cases dest <;> simp [hroute] <;> simp [State.departed]

theorem State.respQ_departed (s : State) (sl : Slot) (e : Entry) (dest : Departure) :
    (s.departed sl e dest).respQ =
      s.respQ ++ [sl.entry].filter fun j => ((s.departed sl e dest).routeAt j).any Route.isDone := by
  have hroute := State.routeAt_of_entry (State.entry_departed_self (s := s) (sl := sl) (e := e) dest)
  cases dest <;> simp [hroute, Route.isDone] <;> simp [State.departed]

/-- Settles O21: the walk examines the first entries of the chain, `State.Walked` says what became of them, and in a consistent
state the departing entry is none of the chain. -/
theorem departureRunsTheWalk : Obligations.DepartureRunsTheWalk := by
  intro s sl e dest hs hsl he chain left t
  have hnodup : chain.Nodup := hs.blocked_nodup.filter _
  have hmem : ∀ j ∈ chain, j ∈ s.blocked := fun j hj => (List.mem_filter.1 hj).1
  have hself : sl.entry ∉ chain := fun h => by
    have hroute := hs.routeAt_of_mem_blocked (hmem _ h)
    rw [hs.routeAt_of_mem_pool hsl] at hroute
    cases hroute
  have ht : t = (s.departed sl e dest).walk chain := State.depart_eq_walk he dest
  have hentry : ∀ j ∈ chain, (s.departed sl e dest).entry j = s.entry j := fun j hj =>
    State.entry_departed_ne (fun h => hself (h ▸ hj)) dest
  have hdecided : ∀ j ∈ chain, ∃ x d, (s.departed sl e dest).entry j = some x ∧ x.decision = some d :=
    fun j hj => hentry j hj ▸ hs.decided_of_mem_blocked (hmem j hj)
  obtain ⟨examined, behind, hchain, hwalk, hw, hstop⟩ := State.walk_walked hnodup hdecided
  rw [← ht] at hwalk hw hstop
  have hsub : ∀ j ∈ examined, j ∈ chain := fun j hj => hchain ▸ List.mem_append_left behind hj
  have hself' : t.routeAt sl.entry = (s.departed sl e dest).routeAt sl.entry :=
    State.routeAt_congr (hw.others _ fun h => hself (hsub _ h))
  refine ⟨examined, behind, hchain, hwalk, hw.blocked, ?issueQ, ?respQ, ?others, ?routes, ?actions, ?acceptOrder,
    ?windows, ?ticket, ?now, ?contexts, ?arb, ?pool⟩
  case issueQ =>
    rw [hw.issueQ, State.issueQ_departed, List.append_assoc, List.filter_cons, List.filter_cons, ← hself']
    split <;> simp
  case respQ =>
    rw [hw.respQ, State.respQ_departed, List.append_assoc, List.filter_cons, List.filter_cons, ← hself']
    split <;> simp
  case others => exact fun j hj hjex => (hw.others j hjex).trans (State.entry_departed_ne hj dest)
  case routes =>
    intro j hj
    obtain ⟨x, d, hx, hd⟩ := hdecided j (hsub j hj)
    obtain ⟨route, hr, -⟩ := hw.routed j hj x d hx hd
    exact ⟨route, by rw [hr, ← hentry j (hsub j hj), hx]; rfl⟩
  case actions =>
    intro j hj x d hx hd
    obtain ⟨route, hr, hfollows⟩ := hw.routed j hj x d ((hentry j (hsub j hj)).trans hx) hd
    have hat : t.routeAt j = some route := State.routeAt_of_entry hr
    exact ⟨fun h => hat.trans (congrArg some (hfollows.pass h)), fun h => hat.trans (congrArg some (hfollows.refuse h)),
      fun h => hat.trans (congrArg some (hfollows.trap h))⟩
  case pool =>
    rcases hstop with hnone | ⟨before, j, x, d, hsplit, hbefore, hheld, hx, hd, hpool⟩
    · exact .inl hnone
    · have hj : j ∈ chain := hsub j (by simp [hsplit])
      refine .inr ⟨before, j, x, d, hsplit, hbefore, hheld, (hentry j hj).symm.trans hx, hd, ?_⟩
      rw [hpool, State.heldSlot, deadlineFrom_eq]
      rfl
  all_goals rw [ht]; simp [State.departed]

end Sys2Proof.Machine

namespace Sys2Proof.Machine

-- One proof at a time: proofs in parallel wait for one another on threads of their own, each with its stack.
set_option Elab.async false

/-! ### The expiry of a deadline (R49, R51, R55) -/

theorem State.slotOf_entry {s : State} {i : TransitIndex} {sl : Slot} (h : s.slotOf i = some sl) : sl.entry = i :=
  of_decide_eq_true (List.find?_some (p := fun x : Slot => decide (x.entry = i)) h)

theorem Slot.due_iff {sl : Slot} {now : Nat} : sl.due now = true ↔ ∃ t ∈ sl.deadline, t ≤ now := by
  unfold Slot.due
  cases sl.deadline <;> simp

/-- The row of an expiry whose time has come: DEADLINE is posted and the entry departs (R55). -/
theorem exec_deadlineExpiry_due {s : State} {i : TransitIndex} {sl : Slot} {e : Entry} {d : Decision}
    (hsl : s.slotOf i = some sl) (he : s.entry i = some e) (hd : e.decision = some d) (hdue : sl.due s.now = true) :
    exec (.deadlineExpiry i) s = .next
      (((s.postDeadline (deadlineDetail sl e d)).depart sl e (expiryDeparture d e.req.access)).settle) := by
  have hexpire : s.expire sl =
      ((s.postDeadline (deadlineDetail sl e d)).depart sl e (expiryDeparture d e.req.access)).settle := by
    unfold State.expire
    rw [State.slotOf_entry hsl, he]
    dsimp only
    rw [hd]
  simp only [exec, execDeadlineExpiry, hsl, hdue, if_true, hexpire]

/-- The row of an expiry that is not due (log entry 4). -/
theorem exec_deadlineExpiry_not_due {s : State} {i : TransitIndex}
    (h : ∀ sl, s.slotOf i = some sl → ¬ sl.due s.now = true) : exec (.deadlineExpiry i) s = .next s := by
  simp only [exec, execDeadlineExpiry]
  split
  · rfl
  · next sl hsl => rw [if_neg (h sl hsl)]

theorem okResponse_of_not_read {a : Access} (h : a ≠ .read) (w : Word) : okResponse a w = .ok := by
  cases a with
  | read => exact absurd rfl h
  | write _ => rfl

/-- Settles O19: the entry departs as `expiryDeparture` reads its recorded deadline action. -/
theorem deadlineExpiryDeparts : Obligations.DeadlineExpiryDeparts := by
  refine ⟨fun s i sl e d t hsl he hd ht hdue => ?_, fun s i hnot => ?_⟩
  · have hexec := exec_deadlineExpiry_due hsl he hd (Slot.due_iff.2 ⟨t, ht, hdue⟩)
    refine ⟨fun ha => ?release, fun ha => ?refuse, fun ha hread => ?fillRead, fun ha hwrite => ?fillWrite⟩
    case release =>
      have hdest : expiryDeparture d e.req.access = .issue := by rw [expiryDeparture, ha]
      rw [hexec, hdest]; rfl
    case refuse =>
      have hdest : expiryDeparture d e.req.access = .done .error := by rw [expiryDeparture, ha]
      rw [hexec, hdest]; rfl
    case fillRead =>
      have hdest : expiryDeparture d e.req.access = .done (.okWord d.fill) := by rw [expiryDeparture, ha, hread]; rfl
      rw [hexec, hdest]; rfl
    case fillWrite =>
      have hdest : expiryDeparture d e.req.access = .done .ok := by
        rw [expiryDeparture, ha, okResponse_of_not_read hwrite]
      rw [hexec, hdest]; rfl
  · refine exec_deadlineExpiry_not_due fun sl hsl hdue => ?_
    obtain ⟨t, ht, hle⟩ := Slot.due_iff.1 hdue
    exact absurd hle (Nat.not_le.2 (hnot sl hsl t ht))

/-! ### The held record (R47, R179) -/

theorem length_bytesOfHalf (h : Half) : (bytesOfHalf h).length = 2 := rfl

theorem length_bytesOfWord (w : Word) : (bytesOfWord w).length = 4 := rfl

/-- The time held so far saturates at 65,535 (R47). -/
theorem heldSoFar_eq (now : Nat) (sl : Slot) :
    heldSoFar now sl =
      if now - sl.heldSince ≤ 65535 then BitVec.ofNat 16 (now - sl.heldSince) else 0xFFFF := by
  unfold heldSoFar
  split
  · next h => rw [Nat.min_eq_left h]
  · next h => rw [Nat.min_eq_right (Nat.le_of_not_le h)]; rfl

/-- Settles O37: every field before the write data is of fixed length, so each offset of R179 is found by counting. -/
theorem heldRecordLayout : Obligations.HeldRecordLayout := by
  intro now c o sl e b
  refine ⟨rfl, rfl, rfl, ?held, ?remaining, ?read, ?write⟩
  case held => rw [← heldSoFar_eq]; rfl
  case remaining =>
    have hfield : (b.drop 16).take 4 = bytesOfWord (deadlineRemaining now sl) := rfl
    rw [hfield, deadlineRemaining]
    cases sl.deadline <;> rfl
  case read =>
    intro hread
    simp [b, heldRecord, hread, writeDataBytes, bytesOfAddr, length_bytesOfHalf, length_bytesOfWord]
  case write =>
    intro data hwrite
    simp only [b, heldRecord, hwrite, writeDataBytes]
    exact ⟨rfl, rfl⟩

/-! ### TAKE's selection (R83, R87) -/

section
variable {s : State}

/-- A held entry with a class is in use. -/
theorem State.entry_of_classOf {i : TransitIndex} {k : ServiceClass} (h : s.classOf i = some k) :
    ∃ e, s.entry i = some e := by
  obtain ⟨e, he, -⟩ := Option.bind_eq_some_iff.1 h
  exact ⟨e, he⟩

/-- The lowest-numbered FREE context (R87). -/
theorem State.lowestFreeContext_eq_some {c : ContextIndex} :
    s.lowestFreeContext = some c ↔ s.context c = none ∧ ∀ j < c, s.context j ≠ none := by
  unfold State.lowestFreeContext
  rw [find?_finRange_eq_some]
  simp only [Option.isNone_iff_eq_none]

/-- The record with its class where it is WAITING and may be selected (R45, R83). -/
def State.eligibleOf (s : State) (sl : Slot) : Option (Slot × ServiceClass) :=
  if sl.context = none then
    (s.classOf sl.entry).bind fun k => if s.classEligible k = true then some (sl, k) else none
  else none

theorem State.eligible_eq (s : State) : s.eligible = s.pool.filterMap s.eligibleOf := by
  unfold State.eligible
  refine congrArg (fun f => s.pool.filterMap f) (funext fun sl => ?_)
  unfold State.eligibleOf
  cases sl.context with
  | some c => rfl
  | none => cases s.classOf sl.entry <;> rfl

theorem State.eligibleOf_eq_some {sl x : Slot} {k : ServiceClass} :
    s.eligibleOf sl = some (x, k) ↔
      sl = x ∧ x.context = none ∧ s.classOf x.entry = some k ∧ s.classEligible k = true := by
  unfold State.eligibleOf
  constructor
  · intro h
    obtain ⟨hctx, h⟩ := Option.ite_none_right_eq_some.1 h
    obtain ⟨m, hm, h⟩ := Option.bind_eq_some_iff.1 h
    obtain ⟨hel, h⟩ := Option.ite_none_right_eq_some.1 h
    cases h
    exact ⟨rfl, hctx, hm, hel⟩
  · rintro ⟨rfl, hctx, hm, hel⟩
    simp [hctx, hm, hel]

end

theorem mostUrgent_eq_none {floor : ServiceClass} {records : List (Slot × ServiceClass)} :
    mostUrgent floor records = none ↔ records = [] := by
  cases records with
  | nil => simp [mostUrgent]
  | cons x rest =>
    unfold mostUrgent
    cases mostUrgent floor rest with
    | none => simp
    | some y => dsimp only; split <;> simp

/-- The record selected has the least rank, and every record before it a greater one (R87 step 1). -/
theorem mostUrgent_eq_some {floor : ServiceClass} {records : List (Slot × ServiceClass)} {y : Slot × ServiceClass}
    (h : mostUrgent floor records = some y) :
    ∃ before after, records = before ++ y :: after ∧ (∀ x ∈ before, rank floor y.2 < rank floor x.2) ∧
      ∀ x ∈ after, rank floor y.2 ≤ rank floor x.2 := by
  induction records generalizing y with
  | nil => cases h
  | cons x rest ih =>
    unfold mostUrgent at h
    cases hrest : mostUrgent floor rest with
    | none =>
      rw [hrest] at h
      cases h
      exact ⟨[], rest, rfl, by simp, by simp [mostUrgent_eq_none.1 hrest]⟩
    | some z =>
      rw [hrest] at h
      obtain ⟨before, after, hsplit, hbefore, hafter⟩ := ih hrest
      by_cases hlt : rank floor z.2 < rank floor x.2
      · obtain rfl : z = y := by simpa [hlt] using h
        exact ⟨x :: before, after, by rw [hsplit]; rfl, List.forall_mem_cons.2 ⟨hlt, hbefore⟩, hafter⟩
      · obtain rfl : x = y := by simpa [hlt] using h
        refine ⟨[], rest, rfl, by simp, fun w hw => ?_⟩
        rw [hsplit, List.mem_append, List.mem_cons] at hw
        rcases hw with hw | rfl | hw
        · exact Nat.le_trans (Nat.not_lt.1 hlt) (Nat.le_of_lt (hbefore w hw))
        · exact Nat.not_lt.1 hlt
        · exact Nat.le_trans (Nat.not_lt.1 hlt) (hafter w hw)

/-- The selection as TAKE makes it, in terms of the hold-arrival order (R83, R87 step 1). -/
theorem State.selected_of_mostUrgent {s : State} {sl : Slot} {k : ServiceClass}
    (h : mostUrgent s.arb.floor s.eligible = some (sl, k)) :
    ∃ before after, s.pool = before ++ sl :: after ∧ sl.context = none ∧ s.classOf sl.entry = some k ∧
      s.classEligible k = true ∧
      (∀ x ∈ s.pool, ∀ m, x.context = none → s.classOf x.entry = some m → s.classEligible m = true →
        rank s.arb.floor k ≤ rank s.arb.floor m) ∧
      ∀ x ∈ before, x.context = none → s.classOf x.entry ≠ some k := by
  obtain ⟨urgentBefore, urgentAfter, hsplit, hbefore, hafter⟩ := mostUrgent_eq_some h
  have hall : ∀ y ∈ s.eligible, rank s.arb.floor k ≤ rank s.arb.floor y.2 := by
    intro y hy
    rw [hsplit, List.mem_append, List.mem_cons] at hy
    rcases hy with hy | rfl | hy
    · exact Nat.le_of_lt (hbefore y hy)
    · exact Nat.le_refl _
    · exact hafter y hy
  rw [State.eligible_eq] at hsplit hall
  obtain ⟨before, rest, hpool, hpoolBefore, hrest⟩ := List.filterMap_eq_append_iff.1 hsplit
  obtain ⟨skipped, x, after, hskip, hskipped, hx, -⟩ := List.filterMap_eq_cons_iff.1 hrest
  obtain ⟨rfl, hctx, hclass, hel⟩ := State.eligibleOf_eq_some.1 hx
  have heligible : ∀ y m, y.context = none → s.classOf y.entry = some m → s.classEligible m = true →
      s.eligibleOf y = some (y, m) := fun y m hy hm he => State.eligibleOf_eq_some.2 ⟨rfl, hy, hm, he⟩
  refine ⟨before ++ skipped, after, by rw [hpool, hskip, List.append_assoc], hctx, hclass, hel, ?least, ?oldest⟩
  case least =>
    intro y hy m hyctx hm he
    exact hall (y, m) (List.mem_filterMap.2 ⟨y, hy, heligible y m hyctx hm he⟩)
  case oldest =>
    intro y hy hyctx hyk
    have hye := heligible y k hyctx hyk hel
    rcases List.mem_append.1 hy with hy | hy
    · exact absurd (hbefore (y, k) (hpoolBefore ▸ List.mem_filterMap.2 ⟨y, hy, hye⟩)) (Nat.lt_irrefl _)
    · rw [hskipped y hy] at hye
      cases hye

theorem exec_take_ready {s : State} (h : s.LinkReady) :
    exec .take s = .next ((cmdTake s).1.answerWith 0 (cmdTake s).2) :=
  sendFrame_ready h .take fun s => s.execute 0 cmdTake

theorem cmdTake_of_selected {s : State} {c : ContextIndex} {sl : Slot} {k : ServiceClass} {e : Entry}
    (hc : s.lowestFreeContext = some c) (hsel : mostUrgent s.arb.floor s.eligible = some (sl, k))
    (he : s.entry sl.entry = some e) :
    cmdTake s = (s.openContext c sl.entry k,
      replyOk (heldRecord s.now c { ticket := s.ticket + 1, entry := sl.entry, cls := k } sl e)) := by
  simp [cmdTake, hc, hsel, he]

/-- Settles O39: an eligible record makes the list TAKE selects from non-empty, and the selection is its most urgent record,
the oldest of its class. -/
theorem takeOpensAContext : Obligations.TakeOpensAContext := by
  intro s c hready hfree hlower ⟨w, hw, m, hwctx, hwm, hwel⟩
  have hmem : (w, m) ∈ s.eligible := by
    rw [State.eligible_eq]
    exact List.mem_filterMap.2 ⟨w, hw, State.eligibleOf_eq_some.2 ⟨rfl, hwctx, hwm, hwel⟩⟩
  obtain ⟨⟨sl, k⟩, hsel⟩ := Option.ne_none_iff_exists'.1 fun h : mostUrgent s.arb.floor s.eligible = none =>
    List.ne_nil_of_mem hmem (mostUrgent_eq_none.1 h)
  obtain ⟨before, after, hpool, hctx, hclass, hel, hleast, holdest⟩ := State.selected_of_mostUrgent hsel
  obtain ⟨e, he⟩ := State.entry_of_classOf hclass
  refine ⟨before, sl, after, k, e, hpool, hctx, he, hclass, hel, hleast, holdest, ?_⟩
  rw [exec_take_ready hready, cmdTake_of_selected (State.lowestFreeContext_eq_some.2 ⟨hfree, hlower⟩) hsel he]
  rfl

end Sys2Proof.Machine

namespace Sys2Proof.Machine

-- One proof at a time: proofs in parallel wait for one another on threads of their own, each with its stack.
set_option Elab.async false

/-! ### A framed command that a link takes (R161) -/

/-- The row of a framed command is its owner's effect and then its response. -/
theorem exec_of_cmd {s t : State} {c : Instr} {length : Nat} {cmd : State → State × Reply} {r : Reply}
    (h : s.LinkReady) (hcmd : cmd s = (t, r))
    (hexec : ∀ u, exec c u = sendFrame c (fun v => v.execute length cmd) u) :
    exec c s = .next (t.answerWith length r) := by
  rw [hexec, sendFrame_ready h, State.execute, hcmd]

/-! ### Ranks (R79) -/

theorem one_le_rank (floor c : ServiceClass) : 1 ≤ rank floor c := Nat.le_add_left 1 _

theorem rank_le_six (floor c : ServiceClass) : rank floor c ≤ 6 := by
  unfold rank
  omega

theorem rank_injective (floor : ServiceClass) {c d : ServiceClass} (h : rank floor c = rank floor d) : c = d := by
  have hc := c.isLt
  have hd := d.isLt
  unfold rank at h
  exact Fin.ext (by omega)

theorem rank_eq_six_iff {floor c : ServiceClass} : rank floor c = 6 ↔ c = floor := by
  have hc := c.isLt
  have hf := floor.isLt
  rw [Fin.ext_iff]
  unfold rank
  omega

/-- The order of urgency goes upward from the class after the floor, wrapping from 5 to 0. -/
theorem rank_add_one (floor c : ServiceClass) : rank floor (c + 1) = rank floor c % 6 + 1 := by
  have hval : (c + 1).val = (c.val + 1) % 6 := Fin.val_add c 1
  unfold rank
  omega

/-- Settles O38: going up one class adds one to the rank, modulo 6. -/
theorem urgencyOrder : Obligations.UrgencyOrder := by
  intro floor
  have hfloor : rank floor floor = 6 := rank_eq_six_iff.2 rfl
  refine ⟨fun c => ⟨one_le_rank floor c, rank_le_six floor c⟩, fun c d => rank_injective floor, ?_, hfloor,
    fun c hc => ?_⟩
  · rw [rank_add_one, hfloor]
  · have hlt : rank floor c < 6 := Nat.lt_of_le_of_ne (rank_le_six floor c) fun h => hc (rank_eq_six_iff.1 h)
    rw [rank_add_one, Nat.mod_eq_of_lt hlt]

/-! ### Contexts and eligibility (R45, R83, R85) -/

section
variable {s : State}

theorem State.mem_openContexts {c : ContextIndex} {o : OpenContext} :
    (c, o) ∈ s.openContexts ↔ s.context c = some o := by
  simp [State.openContexts]

theorem State.openContexts_eq_nil_iff : s.openContexts = [] ↔ ∀ c, s.context c = none := by
  simp [State.openContexts]

theorem State.lowestFreeContext_eq_none_iff : s.lowestFreeContext = none ↔ ∀ c, s.context c ≠ none := by
  simp [State.lowestFreeContext]

theorem State.lowestFreeContext_isSome_iff : s.lowestFreeContext.isSome = true ↔ ∃ c, s.context c = none := by
  rw [Option.isSome_iff_ne_none, Ne, State.lowestFreeContext_eq_none_iff]
  simp only [Classical.not_forall, Classical.not_not]

theorem State.nestingAllows_iff {k : ServiceClass} :
    s.nestingAllows k = true ↔ s.arb.nesting = .flat ∨
      ∀ c o, s.context c = some o → rank s.arb.floor k < rank s.arb.floor o.cls := by
  unfold State.nestingAllows
  cases s.arb.nesting with
  | flat => simp
  | nested => simp [State.mem_openContexts]

theorem State.classEligible_iff {k : ServiceClass} :
    s.classEligible k = true ↔ s.arb.suppressed.getLsbD k.val = false ∧
      (s.arb.nesting = .flat ∨ ∀ c o, s.context c = some o → rank s.arb.floor k < rank s.arb.floor o.cls) := by
  simp only [State.classEligible, Bool.and_eq_true, Bool.not_eq_true', State.nestingAllows_iff]

/-- A WAITING record is of this class (R45). -/
def State.Waiting (s : State) (k : ServiceClass) : Prop :=
  ∃ sl ∈ s.pool, sl.context = none ∧ s.classOf sl.entry = some k

theorem State.eligible_ne_nil_iff : s.eligible ≠ [] ↔ ∃ k, s.Waiting k ∧ s.classEligible k = true := by
  rw [State.eligible_eq]
  constructor
  · intro hne
    obtain ⟨⟨sl, k⟩, hmem⟩ := List.exists_mem_of_ne_nil _ hne
    obtain ⟨x, hx, hel⟩ := List.mem_filterMap.1 hmem
    obtain ⟨rfl, hctx, hclass, hok⟩ := State.eligibleOf_eq_some.1 hel
    exact ⟨k, ⟨x, hx, hctx, hclass⟩, hok⟩
  · rintro ⟨k, ⟨sl, hsl, hctx, hclass⟩, hok⟩
    exact List.ne_nil_of_mem
      (List.mem_filterMap.2 ⟨sl, hsl, State.eligibleOf_eq_some.2 ⟨rfl, hctx, hclass, hok⟩⟩)

theorem State.eligible_eq_nil_iff : s.eligible = [] ↔ ∀ k, s.Waiting k → s.classEligible k = false := by
  constructor
  · intro hnil k hk
    exact Bool.eq_false_iff.2 fun hel => State.eligible_ne_nil_iff.2 ⟨k, hk, hel⟩ hnil
  · intro hnone
    refine Classical.byContradiction fun hne => ?_
    obtain ⟨k, hk, hel⟩ := State.eligible_ne_nil_iff.1 hne
    exact Bool.eq_false_iff.1 (hnone k hk) hel

/-! ### The outcomes of TAKE (R87, R88) -/

theorem cmdTake_of_no_context (h : ∀ c, s.context c ≠ none) : cmdTake s = (s, replyOnly .noContext) := by
  simp [cmdTake, State.lowestFreeContext_eq_none_iff.2 h]

theorem cmdTake_of_none_eligible (hfree : ∃ c, s.context c = none)
    (hnone : ∀ k, s.Waiting k → s.classEligible k = false) : cmdTake s = (s, replyOnly .none) := by
  obtain ⟨c, hc⟩ := Option.isSome_iff_exists.1 (State.lowestFreeContext_isSome_iff.2 hfree)
  simp [cmdTake, hc, mostUrgent_eq_none.2 (State.eligible_eq_nil_iff.2 hnone)]

/-- What a TAKE needs to succeed (R87, R88). -/
def State.CanTake (s : State) : Prop :=
  (∃ c, s.context c = none) ∧ ∃ k, s.Waiting k ∧ s.classEligible k = true

theorem cmdTake_of_canTake (h : s.CanTake) :
    ∃ c i k payload, cmdTake s = (s.openContext c i k, replyOk payload) := by
  obtain ⟨hfree, hwaiting⟩ := h
  obtain ⟨c, hc⟩ := Option.isSome_iff_exists.1 (State.lowestFreeContext_isSome_iff.2 hfree)
  obtain ⟨⟨sl, k⟩, hsel⟩ := Option.ne_none_iff_exists'.1 fun h : mostUrgent s.arb.floor s.eligible = none =>
    State.eligible_ne_nil_iff.2 hwaiting (mostUrgent_eq_none.1 h)
  obtain ⟨-, -, -, -, hclass, -⟩ := State.selected_of_mostUrgent hsel
  obtain ⟨e, he⟩ := State.entry_of_classOf hclass
  exact ⟨c, sl.entry, k, _, cmdTake_of_selected hc hsel he⟩

theorem cmdTake_of_not_canTake (h : ¬ s.CanTake) : ∃ st, cmdTake s = (s, replyOnly st) := by
  by_cases hfree : ∃ c, s.context c = none
  · refine ⟨.none, cmdTake_of_none_eligible hfree fun k hk => ?_⟩
    exact Bool.eq_false_iff.2 fun hel => h ⟨hfree, k, hk, hel⟩
  · exact ⟨.noContext, cmdTake_of_no_context (not_exists.1 hfree)⟩

end

/-- Settles O40: each case of R88 makes every waiting class ineligible. -/
theorem takeWithNothingToTake : Obligations.TakeWithNothingToTake := by
  intro s hready waiting
  refine ⟨fun hopen => exec_of_cmd hready (cmdTake_of_no_context hopen) fun _ => rfl, fun hfree => ?_⟩
  have hnone : (∀ k, waiting k → s.classEligible k = false) →
      exec .take s = .next (s.answerWith 0 (replyOnly .none)) := fun h =>
    exec_of_cmd hready (cmdTake_of_none_eligible hfree h) fun _ => rfl
  refine ⟨hnone, fun htaken => hnone ?taken, fun hsuppressed => hnone ?suppressed,
    fun hnested hbehind => hnone ?nested⟩
  case taken =>
    rintro k ⟨sl, hsl, hctx, -⟩
    exact absurd hctx (htaken sl hsl)
  case suppressed =>
    intro k hk
    simp only [State.classEligible, hsuppressed k hk, Bool.not_true, Bool.false_and]
  case nested =>
    intro k hk
    refine Bool.eq_false_iff.2 fun hel => ?_
    obtain ⟨hfree, hflat | hmore⟩ := State.classEligible_iff.1 hel
    · rw [hnested] at hflat
      cases hflat
    · obtain ⟨c, o, ho, hle⟩ := hbehind k hk hfree
      exact absurd (hmore c o ho) (Nat.not_lt.2 hle)

/-! ### NOTIFY (R92) -/

section
variable {s : State}

theorem State.notify_iff : s.notify = true ↔ s.arb.notifyOn = true ∧ s.CanTake := by
  simp only [State.notify, State.CanTake, Bool.and_eq_true, Bool.not_eq_true', List.isEmpty_eq_false_iff,
    State.lowestFreeContext_isSome_iff, State.eligible_ne_nil_iff, and_assoc]

/-- What a TAKE needs, read off the pool, the settings and the contexts (R83). -/
theorem State.canTake_iff : s.CanTake ↔ (∃ c, s.context c = none) ∧
    ∃ sl ∈ s.pool, ∃ k, sl.context = none ∧ s.classOf sl.entry = some k ∧ s.arb.suppressed.getLsbD k.val = false ∧
      (s.arb.nesting = .flat ∨ ∀ c o, s.context c = some o → rank s.arb.floor k < rank s.arb.floor o.cls) := by
  refine and_congr_right fun _ => ⟨?_, ?_⟩
  · rintro ⟨k, ⟨sl, hsl, hctx, hclass⟩, hel⟩
    exact ⟨sl, hsl, k, hctx, hclass, State.classEligible_iff.1 hel⟩
  · rintro ⟨sl, hsl, k, hctx, hclass, hel⟩
    exact ⟨k, ⟨sl, hsl, hctx, hclass⟩, State.classEligible_iff.2 hel⟩

/-- A TAKE succeeds when it can; turned away, it gives no ticket (R86, R88). -/
theorem State.canTake_iff_exec_take (h : s.LinkReady) : s.CanTake ↔ ∃ t payload, exec .take s = .next t ∧
    t.link = .responding 0 (responseFrame (replyOk payload)) 0 ∧ t.ticket = s.ticket + 1 := by
  constructor
  · intro hcan
    obtain ⟨c, i, k, payload, hcmd⟩ := cmdTake_of_canTake hcan
    exact ⟨_, payload, exec_of_cmd h hcmd fun _ => rfl, rfl, rfl⟩
  · rintro ⟨t, payload, hexec, -, hticket⟩
    refine Classical.byContradiction fun hcan => ?_
    obtain ⟨st, hcmd⟩ := cmdTake_of_not_canTake hcan
    rw [exec_of_cmd h hcmd fun _ => rfl] at hexec
    cases hexec
    rw [State.answerWith_ticket] at hticket
    bv_omega

end

/-- The state with its notify enable set so. -/
def State.withNotify (s : State) (on : Bool) : State := { s with arb := { s.arb with notifyOn := on } }

/-- TAKE neither reads nor changes the notify enable (R92). -/
theorem cmdTake_withNotify (s : State) (on : Bool) :
    cmdTake (s.withNotify on) = ((cmdTake s).1.withNotify on, (cmdTake s).2) := by
  have hfree : (s.withNotify on).lowestFreeContext = s.lowestFreeContext := rfl
  have hel : (s.withNotify on).eligible = s.eligible := rfl
  have hfloor : (s.withNotify on).arb.floor = s.arb.floor := rfl
  have hentry : ∀ i, (s.withNotify on).entry i = s.entry i := fun _ => rfl
  unfold cmdTake
  rw [hfree, hel, hfloor]
  cases s.lowestFreeContext with
  | none => rfl
  | some c =>
    cases mostUrgent s.arb.floor s.eligible with
    | none => rfl
    | some x =>
      dsimp only
      rw [hentry]
      cases s.entry x.1.entry <;> rfl

theorem State.linkStatusByte_notify (s : State) : s.linkStatusByte.getLsbD 3 = s.notify := by
  simp only [State.linkStatusByte, BitVec.getLsbD_append]
  simp [bit]

/-- Settles O41: NOTIFY is the enable and what TAKE needs. -/
theorem notifyMeansTakeSucceeds : Obligations.NotifyMeansTakeSucceeds := by
  intro s
  refine ⟨?_, fun hready hon => ?_, fun on hready => ?_, s.linkStatusByte_notify⟩
  · rw [State.notify_iff, State.canTake_iff]
  · rw [State.notify_iff, ← State.canTake_iff_exec_take hready]
    exact and_iff_right hon
  · exact ⟨_, exec_of_cmd (s := s.withNotify on) hready (cmdTake_withNotify s on) fun _ => rfl, exec_take_ready hready⟩

/-! ### The settings of SET ARBITRATION (R94, R178) -/

/-- The type has these two values, coded 00h and 01h. -/
structure TwoCodes {α : Type} (code : α → Byte) (first second : α) : Prop where
  first_code  : code first = 0x00
  second_code : code second = 0x01
  either      : ∀ x, x = first ∨ x = second

section
variable {α : Type} {code : α → Byte} {first second : α}

theorem TwoCodes.read_eq_some (h : TwoCodes code first second) {b : Byte} {x : α} :
    (if b = 0x00 then some first else if b = 0x01 then some second else none) = some x ↔ code x = b := by
  have hne : first ≠ second := fun heq => by
    have hcode := h.first_code.symm.trans ((congrArg code heq).trans h.second_code)
    exact absurd hcode (by decide)
  split
  · next hb =>
    subst hb
    rcases h.either x with rfl | rfl <;> simp [h.first_code, h.second_code, hne]
  · next hb =>
    rcases h.either x with rfl | rfl
    · simpa [h.first_code, hne.symm] using Ne.symm hb
    · simp [h.second_code, eq_comm (a := b)]

theorem TwoCodes.injective (h : TwoCodes code first second) : Function.Injective code := fun _ _ heq =>
  Option.some.inj ((h.read_eq_some.2 rfl).symm.trans (h.read_eq_some.2 heq.symm))

theorem TwoCodes.exists_iff (h : TwoCodes code first second) {b : Byte} : (∃ x, code x = b) ↔ b.toNat ≤ 1 := by
  constructor
  · rintro ⟨x, rfl⟩
    rcases h.either x with rfl | rfl
    · simp [h.first_code]
    · simp [h.second_code]
  · intro hle
    have hb : b = 0x00 ∨ b = 0x01 := by bv_omega
    rcases hb with rfl | rfl
    · exact ⟨first, h.first_code⟩
    · exact ⟨second, h.second_code⟩

end

theorem twoCodes_order : TwoCodes orderCode .fixed .rotating := ⟨rfl, rfl, fun m => by cases m <;> simp⟩

theorem twoCodes_nesting : TwoCodes nestingCode .nested .flat := ⟨rfl, rfl, fun m => by cases m <;> simp⟩

theorem twoCodes_flag : TwoCodes flagCode false true := ⟨rfl, rfl, fun y => by cases y <;> simp⟩

theorem orderOf_eq_some {b : Byte} {m : OrderMode} : orderOf b = some m ↔ orderCode m = b := twoCodes_order.read_eq_some

theorem nestingOf_eq_some {b : Byte} {m : NestingMode} : nestingOf b = some m ↔ nestingCode m = b :=
  twoCodes_nesting.read_eq_some

theorem flagOf_eq_some {b : Byte} {y : Bool} : flagOf b = some y ↔ flagCode y = b := twoCodes_flag.read_eq_some

theorem classSetOf_eq_some {b : Byte} {x : BitVec 6} : classSetOf b = some x ↔ x.toNat = b.toNat := by
  have hb := b.isLt
  have hx := x.isLt
  have hbits : b.extractLsb' 6 2 = 0 ↔ b.toNat < 64 := by
    rw [← BitVec.toNat_inj, BitVec.extractLsb'_toNat, Nat.shiftRight_eq_div_pow]
    change b.toNat / 2 ^ 6 % 2 ^ 2 = 0 ↔ b.toNat < 64
    omega
  have hlow : b.extractLsb' 0 6 = x ↔ b.toNat % 64 = x.toNat := by
    rw [← BitVec.toNat_inj, BitVec.extractLsb'_toNat, Nat.shiftRight_zero]
  rw [classSetOf, Option.ite_none_right_eq_some, hbits, Option.some.injEq, hlow]
  omega

/-- The settings of a payload that passes R94, field by field. -/
theorem arbitrationOf_eq_some {order nesting floor suppressed notifyOn : Byte} {a : Arbitration} :
    arbitrationOf order nesting floor suppressed notifyOn = some a ↔
      orderCode a.order = order ∧ nestingCode a.nesting = nesting ∧ a.floor.val = floor.toNat ∧
      a.suppressed.toNat = suppressed.toNat ∧ flagCode a.notifyOn = notifyOn := by
  simp only [arbitrationOf, bind, Option.bind_eq_some_iff, Option.some.injEq, orderOf_eq_some, nestingOf_eq_some,
    finOf_eq_some, classSetOf_eq_some, flagOf_eq_some]
  constructor
  · rintro ⟨m, hm, n, hn, f, hf, x, hx, y, hy, rfl⟩
    exact ⟨hm, hn, hf, hx, hy⟩
  · rintro ⟨hm, hn, hf, hx, hy⟩
    exact ⟨a.order, hm, a.nesting, hn, a.floor, hf, a.suppressed, hx, a.notifyOn, hy, rfl⟩

/-- The tests of R94. -/
theorem exists_arbitrationOf_iff {order nesting floor suppressed notifyOn : Byte} :
    (∃ a, arbitrationOf order nesting floor suppressed notifyOn = some a) ↔
      order.toNat ≤ 1 ∧ nesting.toNat ≤ 1 ∧ floor.toNat ≤ 5 ∧ suppressed.toNat < 64 ∧ notifyOn.toNat ≤ 1 := by
  simp only [arbitrationOf_eq_some]
  constructor
  · rintro ⟨a, hm, hn, hf, hx, hy⟩
    exact ⟨twoCodes_order.exists_iff.1 ⟨_, hm⟩, twoCodes_nesting.exists_iff.1 ⟨_, hn⟩, by omega, by omega,
      twoCodes_flag.exists_iff.1 ⟨_, hy⟩⟩
  · rintro ⟨hm, hn, hf, hx, hy⟩
    obtain ⟨m, hm⟩ := twoCodes_order.exists_iff.2 hm
    obtain ⟨n, hn⟩ := twoCodes_nesting.exists_iff.2 hn
    obtain ⟨y, hy⟩ := twoCodes_flag.exists_iff.2 hy
    exact ⟨⟨m, n, ⟨floor.toNat, Nat.lt_succ_of_le hf⟩, BitVec.ofNatLT _ hx, y⟩, hm, hn, rfl, rfl, hy⟩

/-! ### The outcomes of SET ARBITRATION (R94 to R96) -/

section
variable {order nesting floor suppressed notifyOn : Byte} {a : Arbitration} {s : State}

theorem cmdSetArbitration_of_bad (h : arbitrationOf order nesting floor suppressed notifyOn = none) :
    cmdSetArbitration order nesting floor suppressed notifyOn s = (s, replyOnly .badParam) := by
  simp [cmdSetArbitration, h]

theorem cmdSetArbitration_of_busy (ha : arbitrationOf order nesting floor suppressed notifyOn = some a)
    (h : a.nesting ≠ s.arb.nesting ∧ s.openContexts ≠ []) :
    cmdSetArbitration order nesting floor suppressed notifyOn s = (s, replyOnly .busy) := by
  simp [cmdSetArbitration, ha, h]

theorem cmdSetArbitration_of_allowed (ha : arbitrationOf order nesting floor suppressed notifyOn = some a)
    (h : ¬ (a.nesting ≠ s.arb.nesting ∧ s.openContexts ≠ [])) :
    cmdSetArbitration order nesting floor suppressed notifyOn s = ({ s with arb := a }, replyOnly .ok) := by
  simp only [cmdSetArbitration, ha, if_neg h]

end

/-- Settles O35: R94's tests are those of `arbitrationOf`, and its nesting code differs from the one in force where the mode
does. -/
theorem setArbitrationOutcomes : Obligations.SetArbitrationOutcomes := by
  intro order nesting floor suppressed notifyOn s hready sound changesNesting
  have hsound : (∃ a, arbitrationOf order nesting floor suppressed notifyOn = some a) ↔ sound := exists_arbitrationOf_iff
  have hchange {a : Arbitration} (ha : arbitrationOf order nesting floor suppressed notifyOn = some a) :
      a.nesting ≠ s.arb.nesting ↔ changesNesting := by
    obtain ⟨-, hnesting, -⟩ := arbitrationOf_eq_some.1 ha
    rw [← twoCodes_nesting.injective.ne_iff, hnesting]
  refine ⟨fun hbad => ?bad, fun hok hdiff hopen => ?busy, fun hok hallowed => ?written⟩
  case bad =>
    have hnone := Option.eq_none_iff_forall_ne_some.2 fun a ha => hbad (hsound.1 ⟨a, ha⟩)
    exact exec_of_cmd hready (cmdSetArbitration_of_bad hnone) fun _ => rfl
  case busy =>
    obtain ⟨a, ha⟩ := hsound.2 hok
    have hne : s.openContexts ≠ [] := fun hnil => hopen.elim fun c hc => hc (State.openContexts_eq_nil_iff.1 hnil c)
    exact exec_of_cmd hready (cmdSetArbitration_of_busy ha ⟨(hchange ha).2 hdiff, hne⟩) fun _ => rfl
  case written =>
    obtain ⟨a, ha⟩ := hsound.2 hok
    obtain ⟨horder, hnesting, hfloor, hsuppressed, hnotify⟩ := arbitrationOf_eq_some.1 ha
    have hstands : ¬ (a.nesting ≠ s.arb.nesting ∧ s.openContexts ≠ []) := by
      rintro ⟨hdiff, hne⟩
      rcases hallowed with hsame | hfree
      · exact hsame ((hchange ha).1 hdiff)
      · exact hne (State.openContexts_eq_nil_iff.2 hfree)
    exact ⟨a, horder, hnesting, hfloor, hsuppressed, hnotify,
      exec_of_cmd hready (cmdSetArbitration_of_allowed ha hstands) fun _ => rfl⟩

/-! ### The outcomes of PEEK and READ LIST (R91, R128) -/

theorem finOf_eq_none {n b : Nat} (h : n ≤ b) : finOf n b = none := dif_neg (Nat.not_lt.2 h)

section
variable {s : State}

theorem cmdPeek_of_bad {ctx : Byte} (h : 4 ≤ ctx.toNat) : cmdPeek ctx s = (s, replyOnly .badParam) := by
  simp [cmdPeek, finOf_eq_none h]

theorem cmdPeek_of_free {ctx : Byte} {c : ContextIndex} (hc : c.val = ctx.toNat) (hfree : s.context c = none) :
    cmdPeek ctx s = (s, replyOnly .stale) := by
  simp [cmdPeek, finOf_eq_some.2 hc, State.opening, hfree]

theorem cmdPeek_of_open {ctx : Byte} {c : ContextIndex} {o : OpenContext} {sl : Slot} {e : Entry}
    (hc : c.val = ctx.toNat) (ho : s.context c = some o) (hsl : s.slotOf o.entry = some sl)
    (he : s.entry o.entry = some e) : cmdPeek ctx s = (s, replyOk (heldRecord s.now c o sl e)) := by
  simp [cmdPeek, finOf_eq_some.2 hc, State.opening, ho, hsl, he]

theorem listIdOf_eq_none {list : Byte} (h : 8 ≤ list.toNat) : listIdOf list = none := by
  rw [listIdOf, if_neg (by omega), finOf_eq_none (by omega), Option.map_none]

theorem listIdOf_eq_answer {list : Byte} {l : ListOrdinal} (h : l.val = list.toNat) :
    listIdOf list = some (.answer l) := by
  rw [listIdOf, if_pos (by omega), finOf_eq_some.2 h, Option.map_some]

theorem listIdOf_eq_capture {list : Byte} {l : ListOrdinal} (h : 4 + l.val = list.toNat) :
    listIdOf list = some (.capture l) := by
  rw [listIdOf, if_neg (by omega), finOf_eq_some.2 (by omega : l.val = list.toNat - 4), Option.map_some]

theorem cmdReadList_of_bad {list : Byte} (h : 8 ≤ list.toNat) : cmdReadList list s = (s, replyOnly .badParam) := by
  simp [cmdReadList, listIdOf_eq_none h]

theorem cmdReadList_of_answer {list : Byte} {l : ListOrdinal} (h : listIdOf list = some (.answer l)) :
    cmdReadList list s = (s, replyOk (answerListBytes l s.answerLists[l])) := by
  simp [cmdReadList, h]

theorem cmdReadList_of_capture {list : Byte} {l : ListOrdinal} (h : listIdOf list = some (.capture l)) :
    cmdReadList list s = (s, replyOk (captureListBytes l s.captureLists[l])) := by
  simp [cmdReadList, h]

/-! ### The outcomes of READ ATTENTION, and its ten records (R140, R149, R181) -/

theorem cmdReadAttention_of_bad {cause : Byte} (h : 10 ≤ cause.toNat) :
    cmdReadAttention cause s = (s, replyOnly .badParam) := by
  have hnone : s.causes.views[cause.toNat]? = none := List.getElem?_eq_none h
  simp [cmdReadAttention, hnone]

theorem cmdReadAttention_of_view {cause : Byte} {v : CauseView} (h : s.causes.views[cause.toNat]? = some v) :
    cmdReadAttention cause s =
      (s, replyOk ([cause, flagCode v.isSet, byteOf v.occurrences] ++ causeSetBytes s.causes.setBits ++
        causeSetBytes s.enabled ++ v.detail)) := by
  simp only [cmdReadAttention, h]

end

theorem viewOf_isSet {α : Type} (r : Option (CauseRecord α)) (layout : α → List Byte) :
    (viewOf r layout).isSet = r.isSome := by
  cases r <;> rfl

/-- The flags of the ten causes in number order. -/
def Causes.flags (k : Causes) : List Bool :=
  [k.deadline.isSome, k.holdFull.isSome, k.blockFull.isSome, k.answerOut.isSome, k.captureFull.isSome, k.refusal.isSome,
    k.memoryError.isSome, k.tagClash.isSome, k.linkFault.isSome, k.hostReset.isSome]

theorem Causes.views_isSet (k : Causes) : k.views.map CauseView.isSet = k.flags := by
  simp only [Causes.views, Causes.flags, List.map_cons, List.map_nil, viewOf_isSet]

theorem Causes.setBits_eq (k : Causes) : k.setBits = BitVec.ofBoolListLE k.flags := by
  have htop : bit k.hostReset.isSome = (0#0).concat k.hostReset.isSome := by
    cases k.hostReset.isSome <;> decide
  unfold Causes.setBits
  rw [htop]
  rfl

theorem Causes.getLsbD_setBits (k : Causes) (n : Nat) : k.setBits.getLsbD n = k.flags.getD n false := by
  rw [Causes.setBits_eq]
  exact BitVec.getLsbD_ofBoolListLE

/-- A cause's bit in the set of causes is the flag of its record. -/
theorem Causes.getLsbD_setBits_of_view {k : Causes} {n : Nat} {v : CauseView} (h : k.views[n]? = some v) :
    k.setBits.getLsbD n = v.isSet := by
  rw [Causes.getLsbD_setBits, ← Causes.views_isSet, List.getD_eq_getElem?_getD, List.getElem?_map, h]
  rfl

theorem Causes.recordLayout (k : Causes) : k.RecordLayout := by
  unfold Causes.RecordLayout
  intro record address window kind
  have hrecord {α : Type} (r : Option (CauseRecord α)) (layout : α → List Byte) : record r layout = viewOf r layout := by
    cases r <;> rfl
  have hwindow : window = codeOrNone := by
    funext w
    cases w <;> rfl
  simp only [hrecord, hwindow]
  unfold Causes.views
  refine List.cons_eq_cons.2 ⟨congrArg (viewOf k.deadline) (funext fun d => ?_), rfl⟩
  unfold deadlineBytes
  cases d.context <;> rfl

/-- The count of WAITING records of a class (R97). -/
theorem State.waitingCount_eq (s : State) (k : ServiceClass) :
    s.waitingCount k = s.pool.countP fun sl => decide (sl.context = none ∧ s.classOf sl.entry = some k) := by
  simp only [State.waitingCount, Bool.decide_and]

/-- Settles O36: each outcome of each of the four commands answers from the state it leaves as it is. -/
theorem readingCommandsChangeNothing : Obligations.ReadingCommandsChangeNothing := by
  intro s hready
  refine ⟨?arbitration, fun ctx => ⟨fun hbad => ?_, fun c hc hfree => ?_, fun c o sl e hc ho hsl he => ?_⟩,
    fun list => ⟨fun hbad => ?_, fun l hl => ?answerList, fun l hl => ?captureList⟩,
    fun cause => ⟨fun hbad => ?_, fun v hv => ⟨?_, fun w hw => s.causes.getLsbD_setBits_of_view hw⟩,
      s.causes.recordLayout⟩⟩
  case arbitration =>
    simp only [← State.waitingCount_eq]
    exact exec_of_cmd (cmd := cmdReadArbitration) hready rfl fun _ => rfl
  · exact exec_of_cmd hready (cmdPeek_of_bad hbad) fun _ => rfl
  · exact exec_of_cmd hready (cmdPeek_of_free hc hfree) fun _ => rfl
  · exact exec_of_cmd hready (cmdPeek_of_open hc ho hsl he) fun _ => rfl
  · exact exec_of_cmd hready (cmdReadList_of_bad hbad) fun _ => rfl
  case answerList =>
    have hcode : byteOf l.val = list := byteOf_of_finOf (finOf_eq_some.2 hl)
    rw [exec_of_cmd hready (cmdReadList_of_answer (listIdOf_eq_answer hl)) fun _ => rfl, answerListBytes, hcode]
  case captureList =>
    have hcode : byteOf (4 + l.val) = list := by rw [hl, byteOf_toNat]
    rw [exec_of_cmd hready (cmdReadList_of_capture (listIdOf_eq_capture hl)) fun _ => rfl, captureListBytes, hcode]
  · exact exec_of_cmd hready (cmdReadAttention_of_bad hbad) fun _ => rfl
  · exact exec_of_cmd hready (cmdReadAttention_of_view hv) fun _ => rfl

end Sys2Proof.Machine

namespace Sys2Proof.Machine

-- One proof at a time: proofs in parallel wait for one another on threads of their own, each with its stack.
set_option Elab.async false

/-! ### The lanes of RELEASE WITH DATA (R102, R106) -/

theorem highBits_eq_zero_iff {k m : Nat} (b : BitVec (k + m)) : b.extractLsb' k m = 0 ↔ b.toNat < 2 ^ k := by
  have hdiv : b.toNat / 2 ^ k < 2 ^ m := Nat.div_lt_of_lt_mul (by rw [← Nat.pow_add]; exact b.isLt)
  rw [← BitVec.toNat_inj, BitVec.extractLsb'_toNat, Nat.shiftRight_eq_div_pow, Nat.mod_eq_of_lt hdiv]
  exact Nat.div_eq_zero_iff_lt (Nat.two_pow_pos k)

theorem laneSetOf_eq (b : Byte) : laneSetOf b = if b.toNat < 16 then some (b.setWidth 4) else none := by
  have hhigh : b.extractLsb' 4 4 = 0 ↔ b.toNat < 16 := highBits_eq_zero_iff (k := 4) (m := 4) b
  have hlow : b.extractLsb' 0 4 = b.setWidth 4 := BitVec.setWidth_eq_extractLsb' (by decide) |>.symm
  simp only [laneSetOf, hhigh, hlow]

theorem releaseLanesOf_of_sound {b : Byte} (hne : b ≠ 0) (hlt : b.toNat < 16) :
    releaseLanesOf b = some (b.setWidth 4) := by
  have hlanes : b.setWidth 4 ≠ 0 := by
    intro hzero
    have hmod : b.toNat % 16 = 0 := by simpa using congrArg BitVec.toNat hzero
    exact hne (BitVec.eq_of_toNat_eq ((Nat.mod_eq_of_lt hlt).symm.trans hmod))
  rw [releaseLanesOf, laneSetOf_eq, if_pos hlt]
  exact Option.filter_some_pos (decide_eq_true hlanes)

theorem releaseLanesOf_eq_none {b : Byte} (h : b = 0 ∨ 16 ≤ b.toNat) : releaseLanesOf b = none := by
  rcases h with rfl | hge
  · rfl
  · rw [releaseLanesOf, laneSetOf_eq, if_neg (Nat.not_lt.2 hge), Option.filter_none]

/-! ### The tests the five dispositions share (R102, R103) -/

/-- The tests of a disposition in their order, around what it does to the entry it addresses. -/
def State.dispose (s : State) (ctx : Byte) (ticket : Half) (act : Slot → Entry → State × Reply) : State × Reply :=
  match finOf 4 ctx.toNat with
  | none => (s, replyOnly .badParam)
  | some c =>
    match s.addressed c ticket with
    | none => (s, replyOnly .stale)
    | some (sl, e) => act sl e

/-- What RELEASE WITH DATA does to the entry it addresses (R106, R107). -/
def State.releaseReplaced (s : State) (lanes : Lanes) (data : Word) (sl : Slot) (e : Entry) : State × Reply :=
  match e.req.access with
  | .read => (s, replyOnly .wrongKind)
  | .write _ => (s.rewrite sl.entry e lanes data).closeBy sl e .issue

section
variable {s : State} {ctx : Byte} {ticket : Half} {c : ContextIndex} {o : OpenContext} {sl : Slot} {e : Entry}

theorem State.addressed_eq_none (h : ∀ o, s.context c = some o → o.ticket ≠ ticket) :
    s.addressed c ticket = none := by
  unfold State.addressed
  split
  · rfl
  · next o sl e hopening =>
    have ho : s.context c = some o := by
      simp only [State.opening, Option.bind_eq_bind, Option.bind_eq_some_iff] at hopening
      obtain ⟨o', ho', _, _, _, _, heq⟩ := hopening
      cases heq
      exact ho'
    exact if_neg (h o ho)

theorem State.addressed_of_open (ho : s.context c = some o) (hticket : o.ticket = ticket)
    (hsl : s.slotOf o.entry = some sl) (he : s.entry o.entry = some e) : s.addressed c ticket = some (sl, e) := by
  simp [State.addressed, State.opening, ho, hsl, he, hticket]

variable {act : Slot → Entry → State × Reply}

theorem State.dispose_of_bad (h : 4 ≤ ctx.toNat) : s.dispose ctx ticket act = (s, replyOnly .badParam) := by
  simp only [State.dispose, finOf_eq_none h]

theorem State.dispose_of_stale (hc : c.val = ctx.toNat) (h : ∀ o, s.context c = some o → o.ticket ≠ ticket) :
    s.dispose ctx ticket act = (s, replyOnly .stale) := by
  simp only [State.dispose, finOf_eq_some.2 hc, State.addressed_eq_none h]

theorem State.dispose_of_open (hc : c.val = ctx.toNat) (ho : s.context c = some o) (hticket : o.ticket = ticket)
    (hsl : s.slotOf o.entry = some sl) (he : s.entry o.entry = some e) : s.dispose ctx ticket act = act sl e := by
  simp only [State.dispose, finOf_eq_some.2 hc, State.addressed_of_open ho hticket hsl he]

end

/-! ### Each disposition in terms of those tests -/

/-- A departure reads of its entry only the master and the line, which the replacement of R107 keeps. -/
theorem State.closeBy_replaced (s : State) (sl : Slot) (e : Entry) (access : Access) (lanes : Lanes)
    (dest : Departure) :
    s.closeBy sl { e with req := { e.req with access := access, lanes := lanes } } dest = s.closeBy sl e dest := rfl

/-- The expiry time that EXTEND sets, by the byte carried (R48, R50). -/
theorem deadlineFrom_toNat (now : Nat) (code : Byte) :
    deadlineFrom now code.toNat = if code = 0 then none else some (now + 2 ^ (code.toNat + 1)) := by
  unfold deadlineFrom deadlineTicks
  by_cases hcode : code = 0
  · simp [hcode]
  · rw [if_neg hcode, if_neg fun h : code.toNat = 0 => hcode (BitVec.eq_of_toNat_eq h)]
    rfl

section
variable (s : State) (ctx : Byte) (ticket : Half)

theorem cmdRelease_eq : cmdRelease ctx ticket s = s.dispose ctx ticket fun sl e => s.closeBy sl e .issue := rfl

theorem cmdRefuse_eq : cmdRefuse ctx ticket s = s.dispose ctx ticket fun sl e => s.closeBy sl e (.done .error) := rfl

theorem cmdAnswer_eq (data : Word) : cmdAnswer ctx ticket data s =
    s.dispose ctx ticket fun sl e => s.closeBy sl e (.done (okResponse e.req.access data)) := rfl

theorem cmdReleaseWithData_eq {lanes : Byte} (hne : lanes ≠ 0) (hlt : lanes.toNat < 16) (data : Word) :
    cmdReleaseWithData ctx ticket lanes data s =
      s.dispose ctx ticket (s.releaseReplaced (lanes.setWidth 4) data) := by
  rw [cmdReleaseWithData, releaseLanesOf_of_sound hne hlt]
  unfold State.dispose
  cases finOf 4 ctx.toNat <;> rfl

theorem cmdExtend_eq {code : Byte} (hlt : code.toNat < 16) : cmdExtend ctx ticket code s =
    s.dispose ctx ticket fun sl _ =>
      (s.updateSlot sl.entry fun x => { x with deadline := deadlineFrom s.now code.toNat }, replyOnly .ok) := by
  rw [cmdExtend, finOf_eq_some.2 (rfl : (⟨code.toNat, hlt⟩ : Fin 16).val = code.toNat)]
  unfold State.dispose
  cases finOf 4 ctx.toNat <;> rfl

variable {s ctx ticket}

theorem cmdReleaseWithData_of_bad {lanes : Byte} {data : Word}
    (h : 4 ≤ ctx.toNat ∨ lanes = 0 ∨ 16 ≤ lanes.toNat) :
    cmdReleaseWithData ctx ticket lanes data s = (s, replyOnly .badParam) := by
  unfold cmdReleaseWithData
  rcases h with hctx | hlanes
  · rw [finOf_eq_none hctx]
  · rw [releaseLanesOf_eq_none hlanes]
    cases finOf 4 ctx.toNat <;> rfl

theorem cmdExtend_of_bad {code : Byte} (h : 4 ≤ ctx.toNat ∨ 16 ≤ code.toNat) :
    cmdExtend ctx ticket code s = (s, replyOnly .badParam) := by
  unfold cmdExtend
  rcases h with hctx | hcode
  · rw [finOf_eq_none hctx]
  · rw [finOf_eq_none hcode]
    cases finOf 4 ctx.toNat <;> rfl

theorem State.releaseReplaced_of_read {lanes : Lanes} {data : Word} {sl : Slot} {e : Entry} (h : e.req.access = .read) :
    s.releaseReplaced lanes data sl e = (s, replyOnly .wrongKind) := by
  simp only [State.releaseReplaced, h]

theorem State.releaseReplaced_of_write {lanes : Lanes} {data old : Word} {sl : Slot} {e : Entry}
    (h : e.req.access = .write old) :
    s.releaseReplaced lanes data sl e = (s.rewrite sl.entry e lanes data).closeBy sl e .issue := by
  simp only [State.releaseReplaced, h]

end

/-- Settles O42: BAD_PARAM and STALE by the tests the five share, WRONG_KIND by the kind of the entry addressed. -/
theorem dispositionsTurnedAway : Obligations.DispositionsTurnedAway := by
  intro s ctx ticket hready
  refine ⟨fun hbad => ⟨?_, ?_, fun data => ?_⟩, fun lanes data hbad => ?_, fun code hbad => ?_,
    fun c hc hticket => ⟨?_, ?_, fun data => ?_, fun lanes data hne hlt => ?_, fun code hlt => ?_⟩,
    fun c o sl e lanes data hc ho hticket hsl he hread hne hlt => ?wrongKind⟩
  · exact exec_of_cmd hready ((cmdRelease_eq s ctx ticket).trans (State.dispose_of_bad hbad)) fun _ => rfl
  · exact exec_of_cmd hready ((cmdRefuse_eq s ctx ticket).trans (State.dispose_of_bad hbad)) fun _ => rfl
  · exact exec_of_cmd hready ((cmdAnswer_eq s ctx ticket data).trans (State.dispose_of_bad hbad)) fun _ => rfl
  · exact exec_of_cmd hready (cmdReleaseWithData_of_bad hbad) fun _ => rfl
  · exact exec_of_cmd hready (cmdExtend_of_bad hbad) fun _ => rfl
  · exact exec_of_cmd hready ((cmdRelease_eq s ctx ticket).trans (State.dispose_of_stale hc hticket)) fun _ => rfl
  · exact exec_of_cmd hready ((cmdRefuse_eq s ctx ticket).trans (State.dispose_of_stale hc hticket)) fun _ => rfl
  · exact exec_of_cmd hready ((cmdAnswer_eq s ctx ticket data).trans (State.dispose_of_stale hc hticket)) fun _ => rfl
  · have hstale := State.dispose_of_stale (act := s.releaseReplaced (lanes.setWidth 4) data) hc hticket
    exact exec_of_cmd hready ((cmdReleaseWithData_eq s ctx ticket hne hlt data).trans hstale) fun _ => rfl
  · exact exec_of_cmd hready ((cmdExtend_eq s ctx ticket hlt).trans (State.dispose_of_stale hc hticket)) fun _ => rfl
  case wrongKind =>
    have hcmd : cmdReleaseWithData ctx ticket lanes data s = (s, replyOnly .wrongKind) := by
      rw [cmdReleaseWithData_eq s ctx ticket hne hlt, State.dispose_of_open hc ho hticket hsl he,
        State.releaseReplaced_of_read hread]
    exact exec_of_cmd hready hcmd fun _ => rfl

/-- Settles O43: past the tests, each disposition is what it does to the slot record and the entry it addresses. -/
theorem dispositionsCarriedOut : Obligations.DispositionsCarriedOut := by
  refine ⟨fun s ctx ticket c o sl e hready hc ho hticket hsl he => ?closing,
    fun s ctx code ticket c o sl e hready hc ho hticket hsl he hlt => ?extend⟩
  case closing =>
    have hopen {act : Slot → Entry → State × Reply} : s.dispose ctx ticket act = act sl e :=
      State.dispose_of_open hc ho hticket hsl he
    have hanswer (data : Word) : exec (.answer ctx ticket data) s = .next
        ((s.depart sl e (.done (okResponse e.req.access data))).openEpisode.answerWith 7 (replyOnly .ok)) :=
      exec_of_cmd hready ((cmdAnswer_eq s ctx ticket data).trans hopen) fun _ => rfl
    refine ⟨?release, ?refuse, fun data hread => ?answerRead, fun data hwrite => ?answerWrite,
      fun lanes data old hwrite hne hlt => ?releaseWithData⟩
    case release => exact exec_of_cmd hready ((cmdRelease_eq s ctx ticket).trans hopen) fun _ => rfl
    case refuse => exact exec_of_cmd hready ((cmdRefuse_eq s ctx ticket).trans hopen) fun _ => rfl
    case answerRead => rw [hanswer, hread]; rfl
    case answerWrite => rw [hanswer, okResponse_of_not_read hwrite]
    case releaseWithData =>
      have hcmd : cmdReleaseWithData ctx ticket lanes data s =
          (s.rewrite o.entry e (lanes.setWidth 4) data).closeBy sl
            { e with req := { e.req with access := .write data, lanes := lanes.setWidth 4 } } .issue := by
        rw [State.closeBy_replaced, cmdReleaseWithData_eq s ctx ticket hne hlt, hopen,
          State.releaseReplaced_of_write hwrite, State.slotOf_entry hsl]
      exact exec_of_cmd hready hcmd fun _ => rfl
  case extend =>
    have hcmd : cmdExtend ctx ticket code s =
        (s.updateSlot o.entry fun x => { x with deadline := deadlineFrom s.now code.toNat }, replyOnly .ok) := by
      rw [cmdExtend_eq s ctx ticket hlt, State.dispose_of_open hc ho hticket hsl he, State.slotOf_entry hsl]
    rw [← deadlineFrom_toNat]
    exact exec_of_cmd hready hcmd fun _ => rfl

end Sys2Proof.Machine

namespace Sys2Proof.Machine

-- One proof at a time: proofs in parallel wait for one another on threads of their own, each with its stack.
set_option Elab.async false

/-! ### The advance of an armed list (R130, R131) -/

theorem AnswerList.advance_of_more {a : AnswerList} (h : 2 ≤ a.remaining) :
    a.advance = { a with position := a.position + 1, remaining := a.remaining - 1 } :=
  if_neg (by omega)

theorem AnswerList.advance_of_reload {a : AnswerList} (h : a.remaining = 1) (hreload : a.reload = true) :
    a.advance = { a with position := a.first, remaining := a.length } := by
  rw [AnswerList.advance, if_pos (Nat.le_of_eq h), if_pos hreload]

theorem AnswerList.advance_of_last {a : AnswerList} (h : a.remaining = 1) (hreload : a.reload = false) :
    a.advance = { a with state := .exhausted, position := a.position + 1, remaining := 0 } := by
  rw [AnswerList.advance, if_pos (Nat.le_of_eq h), if_neg (Bool.eq_false_iff.1 hreload)]

theorem CaptureList.advance_of_armed {c : CaptureList} (h : c.state = .armed) :
    c.advance =
      { c with count := c.count + 1, state := if c.count + 1 = c.length then .full else .armed } := by
  unfold CaptureList.advance
  split
  · rfl
  · rw [← h]

theorem CaptureList.advance_full_iff {c : CaptureList} (h : c.state = .armed) :
    c.advance.state = .full ↔ c.count + 1 = c.length := by
  rw [CaptureList.advance_of_armed h]
  simp

/-! ### Service by an armed list (R8, R130, R131) -/

section
variable {s : State} {i : TransitIndex} {e : Entry} {d : Decision} {l : ListOrdinal}

theorem State.complete_eq (he : s.entry i = some e) (r : Response) :
    s.complete i r =
      { s with entries := s.entries.set i (some { e with route := .done r }), respQ := s.respQ ++ [i] } := by
  simp [State.complete, State.setRoute, State.setEntry, he]

theorem State.carryOut_of_list (he : s.entry i = some e) (hd : e.decision = some d) (hact : d.action = .list) :
    s.carryOut i = s.serve i e d := by
  simp [State.carryOut, he, hd, hact]

theorem State.serve_of_read (hread : e.req.access = .read) (hl : d.readList = some l) :
    s.serve i e d = s.serveRead i e d l := by
  simp [State.serve, hread, hl]

theorem State.serve_of_write {data : Word} (hwrite : e.req.access = .write data) (hl : d.writeList = some l) :
    s.serve i e d = s.serveWrite i e d l data := by
  simp [State.serve, hwrite, hl]

theorem State.serveRead_of_armed (h : s.answerLists[l].state = .armed) :
    s.serveRead i e d l =
      if s.answerLists[l].advance.state = .exhausted then (s.answered i l).postAnswerOut l else s.answered i l := by
  simp only [State.serveRead, h]
  rfl

theorem State.serveWrite_of_armed (h : s.captureLists[l].state = .armed) (data : Word) :
    s.serveWrite i e d l data =
      if s.captureLists[l].advance.state = .full then (s.captured i l (captureRecord e data)).postCaptureFull l
      else s.captured i l (captureRecord e data) := by
  simp only [State.serveWrite, h]
  rfl

theorem State.answered_eq (he : s.entry i = some e) :
    s.answered i l = { s with
      entries := s.entries.set i
        (some { e with route := .done (.okWord (readCell s.cells s.answerLists[l].position).data) })
      respQ := s.respQ ++ [i]
      answerLists := s.answerLists.set l s.answerLists[l].advance } :=
  State.complete_eq (s := { s with answerLists := s.answerLists.set l s.answerLists[l].advance }) he _

theorem State.captured_eq (he : s.entry i = some e) (c : Cell) :
    s.captured i l c = { s with
      entries := s.entries.set i (some { e with route := .done .ok })
      respQ := s.respQ ++ [i]
      cells := writeCell s.cells s.captureLists[l].nextCell c
      captureLists := s.captureLists.set l s.captureLists[l].advance } :=
  State.complete_eq (s := { s with
    cells := writeCell s.cells s.captureLists[l].nextCell c
    captureLists := s.captureLists.set l s.captureLists[l].advance }) he _

/-- A READ decided LIST whose answer list is ARMED (R130). -/
theorem State.carryOut_of_armed_read (he : s.entry i = some e) (hd : e.decision = some d) (hact : d.action = .list)
    (hread : e.req.access = .read) (hl : d.readList = some l) (harmed : s.answerLists[l].state = .armed) :
    s.carryOut i = { s with
      entries := s.entries.set i
        (some { e with route := .done (.okWord (readCell s.cells s.answerLists[l].position).data) })
      respQ := s.respQ ++ [i]
      answerLists := s.answerLists.set l s.answerLists[l].advance
      causes := if s.answerLists[l].advance.state = .exhausted then
          { s.causes with answerOut := post s.causes.answerOut l }
        else s.causes } := by
  rw [State.carryOut_of_list he hd hact, State.serve_of_read hread hl, State.serveRead_of_armed harmed,
    State.answered_eq he]
  split <;> rfl

/-- A WRITE decided LIST whose capture list is ARMED (R131). -/
theorem State.carryOut_of_armed_write {data : Word} (he : s.entry i = some e) (hd : e.decision = some d)
    (hact : d.action = .list) (hwrite : e.req.access = .write data) (hl : d.writeList = some l)
    (harmed : s.captureLists[l].state = .armed) :
    s.carryOut i = { s with
      entries := s.entries.set i (some { e with route := .done .ok })
      respQ := s.respQ ++ [i]
      cells := writeCell s.cells s.captureLists[l].nextCell (captureRecord e data)
      captureLists := s.captureLists.set l s.captureLists[l].advance
      causes := if s.captureLists[l].count + 1 = s.captureLists[l].length then
          { s.causes with captureFull := post s.causes.captureFull l }
        else s.causes } := by
  rw [State.carryOut_of_list he hd hact, State.serve_of_write hwrite hl, State.serveWrite_of_armed harmed,
    State.captured_eq he]
  simp only [CaptureList.advance_full_iff harmed]
  split <;> rfl

end

/-- Settles O13: a READ meets one of the three advances of its answer list; a WRITE's record reads back from the cell after
the newest record, which lies in list memory. -/
theorem armedListServes : Obligations.ArmedListServes := by
  refine ⟨fun s i e d l he hd hact hread hl harmed hok => ?read,
    fun s i e d l data offset he hd hact hwrite hl hoffset harmed hok hwf => ?write⟩
  case read =>
    intro a word done
    obtain ⟨-, -, -, hposition, -⟩ := hok
    have hserved := State.carryOut_of_armed_read he hd hact hread hl harmed
    have hstate : a.state ≠ .exhausted := by rw [harmed]; decide
    refine ⟨fun hmore => ?_, fun hlast hreload => ?_, fun hlast hreload => ?_⟩
    · rw [hserved, AnswerList.advance_of_more hmore, if_neg hstate]
    · rw [hserved, AnswerList.advance_of_reload hlast hreload, if_neg hstate]
    · have hend : a.position + 1 = a.first + a.length := hlast ▸ hposition harmed
      rw [hserved, AnswerList.advance_of_last hlast hreload, if_pos rfl, hend]
  case write =>
    intro c cell t
    have hserved := State.carryOut_of_armed_write he hd hact hwrite hl harmed
    have hcells : t.cells = writeCell s.cells cell (captureRecord e data) := congrArg State.cells hserved
    refine ⟨?state, ?recorded, fun n hn => ?others, ?canonical⟩
    case state =>
      rw [CaptureList.advance_of_armed harmed] at hserved
      rw [hcells]
      exact hserved
    case recorded =>
      rw [hcells, readCell_writeCell_self _ hwf, captureRecord, hoffset, Option.getD_some]
    case others => rw [hcells, readCell_writeCell_ne _ hn hwf]
    case canonical =>
      rw [hcells]
      exact writeCell_wf _ (CaptureList.nextCell_lt hok) hwf

end Sys2Proof.Machine

namespace Sys2Proof.Machine

-- One proof at a time: proofs in parallel wait for one another on threads of their own, each with its stack.
set_option Elab.async false

/-! ### The areas of the engaged lists (R124) -/

theorem forall_mem_toList_iff {α : Type} {n : Nat} {v : Vector α n} {p : α → Prop} :
    (∀ x ∈ v.toList, p x) ↔ ∀ i : Fin n, p v[i] := by
  simp only [Vector.mem_toList_iff, Vector.mem_iff_getElem]
  exact ⟨fun h i => h _ ⟨i.val, i.isLt, rfl⟩, fun h _ ⟨i, hi, hx⟩ => hx ▸ h ⟨i, hi⟩⟩

theorem areasMeet_eq_false_iff {start n : Nat} {area : Nat × Nat} :
    areasMeet (start, n) area = false ↔ start + n ≤ area.1 ∨ area.1 + area.2 ≤ start := by
  simp only [areasMeet, Bool.and_eq_false_iff, decide_eq_false_iff_not, Nat.not_lt]
  exact or_comm

/-- A run meets no engaged area where it ends before each or starts behind it. -/
theorem State.not_meetsEngaged_iff {s : State} {start n : Nat} :
    ¬ s.meetsEngaged (start, n) = true ↔ s.ClearOfEngaged start n := by
  simp only [State.meetsEngaged, State.engagedAreas, Bool.not_eq_true, List.any_eq_false, List.forall_mem_append,
    List.forall_mem_map, List.mem_filter, and_imp, decide_eq_true_eq, areasMeet_eq_false_iff]
  exact and_congr (forall_mem_toList_iff (p := fun a : AnswerList => a.state ≠ .idle →
      start + n ≤ a.first ∨ a.first + a.length ≤ start))
    (forall_mem_toList_iff (p := fun c : CaptureList => c.state ≠ .idle →
      start + n ≤ c.first ∨ c.first + c.length ≤ start))

theorem State.meetsEngaged_iff {s : State} {start n : Nat} :
    s.meetsEngaged (start, n) = true ↔ ¬ s.ClearOfEngaged start n := by
  rw [← State.not_meetsEngaged_iff, Decidable.not_not]

/-! ### A run of cells (R122) -/

/-- Writing a run leaves the cells outside it as they are. -/
theorem readCell_writeRun_outside {n : Nat} : ∀ (words : List Word) {cells : List (Nat × Cell)} {start : Nat},
    start + words.length ≤ 512 → cellsWf cells = true → n < start ∨ start + words.length ≤ n →
    readCell (writeRun cells start words) n = readCell cells n
  | [], _, _, _, _, _ => rfl
  | w :: ws, cells, start, hfit, hwf, hout => by
    rw [List.length_cons] at hfit hout
    calc readCell (writeRun cells start (w :: ws)) n
      _ = readCell (writeCell cells start { data := w, lanes := 0, master := 0, offset := 0 }) n :=
        readCell_writeRun_outside ws (by omega) (writeCell_wf _ (by omega) hwf) (by omega)
      _ = readCell cells n := readCell_writeCell_ne _ (by omega) hwf

/-- The cells of a run hold its words in order. -/
theorem readCell_writeRun_word {w : Word} : ∀ (words : List Word) {cells : List (Nat × Cell)} {start k : Nat},
    start + words.length ≤ 512 → cellsWf cells = true → words[k]? = some w →
    readCell (writeRun cells start words) (start + k) = { data := w, lanes := 0, master := 0, offset := 0 }
  | w' :: ws, cells, start, 0, hfit, hwf, hw => by
    rw [List.length_cons] at hfit
    obtain rfl : w' = w := Option.some.inj hw
    calc readCell (writeRun cells start (w' :: ws)) start
      _ = readCell (writeCell cells start { data := w', lanes := 0, master := 0, offset := 0 }) start :=
        readCell_writeRun_outside ws (by omega) (writeCell_wf _ (by omega) hwf) (by omega)
      _ = _ := readCell_writeCell_self _ hwf
  | w' :: ws, cells, start, k + 1, hfit, hwf, hw => by
    rw [List.length_cons] at hfit
    rw [← Nat.add_assoc, Nat.add_right_comm]
    exact readCell_writeRun_word ws (by omega) (writeCell_wf _ (by omega) hwf) hw

/-! ### The outcomes of LOAD CELLS (R122) -/

section
variable {s : State} {start : Half} {words : List Word}

theorem cmdLoadCells_of_bad (h : 512 < start.toNat + words.length) :
    cmdLoadCells start words s = (s, replyOnly .badParam) :=
  if_pos (.inl h)

theorem cmdLoadCells_of_fits (hsome : 1 ≤ words.length) (hfit : start.toNat + words.length ≤ 512) :
    cmdLoadCells start words s =
      if s.meetsEngaged (start.toNat, words.length) then (s, replyOnly .busy)
      else ({ s with cells := writeRun s.cells start.toNat words }, replyOnly .ok) :=
  if_neg (by omega)

end

/-! ### A frame written byte by byte (R157, R158, R160) -/

theorem toNat_byteOf {n : Nat} (h : n < 256) : (byteOf n).toNat = n := Nat.mod_eq_of_lt h

/-- The link has received these bytes of a frame, the last of them just now (R157). -/
def State.received (s : State) (bytes : List Byte) : State := { s with link := .receiving bytes s.now }

/-- The link has met an overlong length byte just now (R158). -/
def State.overlong (s : State) : State :=
  ({ s with link := .discarding s.now }).postLinkFault { kind := .overlong, bytes := 2 }

section
variable {s : State} {op len : Byte}

theorem State.receive_partial {rest : List Byte} (hlen : len.toNat ≤ 80) (hrest : rest.length ≤ len.toNat) :
    s.receive (op :: len :: rest) = s.received (op :: len :: rest) := by
  have hmax : ¬ Config.maxPayload < len.toNat := Nat.not_lt.2 hlen
  simp only [State.receive, if_neg hmax, List.drop_eq_nil_of_le hrest]
  rfl

theorem State.receive_complete {payload : List Byte} (hlen : payload.length = len.toNat) (hmax : len.toNat ≤ 80)
    (check : Byte) :
    s.receive (op :: len :: (payload ++ [check])) = ({ s with link := .idle }).examine op len payload check := by
  have hmax : ¬ Config.maxPayload < len.toNat := Nat.not_lt.2 hmax
  simp only [State.receive, if_neg hmax, List.drop_left' hlen, List.take_left' hlen]

theorem State.receive_overlong (hlen : 80 < len.toNat) (rest : List Byte) :
    s.receive (op :: len :: rest) = s.overlong :=
  if_pos hlen

theorem State.writeByte_idle (h : s.LinkReady) (b : Byte) : s.writeByte b = s.received [b] := by
  obtain ⟨hp, hl⟩ := h
  simp only [State.writeByte, hp, hl]
  rfl

theorem State.writeByte_received (hp : s.preset = false) (bytes : List Byte) (b : Byte) :
    (s.received bytes).writeByte b = s.receive (bytes ++ [b]) :=
  if_neg (Bool.eq_false_iff.1 hp)

theorem State.writeBytes_append (bs cs : List Byte) : s.writeBytes (bs ++ cs) = (s.writeBytes bs).writeBytes cs :=
  List.foldl_append

theorem State.writeBytes_header (h : s.LinkReady) : s.writeBytes [op, len] = s.receive [op, len] := by
  calc s.writeBytes [op, len]
    _ = (s.received [op]).writeByte len := by rw [← State.writeByte_idle h]; rfl
    _ = s.receive [op, len] := State.writeByte_received h.1 [op] len

/-- Payload bytes that do not complete the frame join it. -/
theorem State.writeBytes_payload (hp : s.preset = false) (hlen : len.toNat ≤ 80) : ∀ (bs sofar : List Byte),
    sofar.length + bs.length ≤ len.toNat →
    (s.received (op :: len :: sofar)).writeBytes bs = s.received (op :: len :: (sofar ++ bs))
  | [], sofar, _ => by rw [List.append_nil]; rfl
  | b :: bs, sofar, hroom => by
    have hroom : (sofar ++ [b]).length + bs.length ≤ len.toNat := by simp at hroom ⊢; omega
    calc (s.received (op :: len :: sofar)).writeBytes (b :: bs)
      _ = ((s.received (op :: len :: sofar)).writeByte b).writeBytes bs := rfl
      _ = (s.received (op :: len :: (sofar ++ [b]))).writeBytes bs := by
        rw [State.writeByte_received hp, List.cons_append, List.cons_append, State.receive_partial hlen (by omega)]
      _ = s.received (op :: len :: ((sofar ++ [b]) ++ bs)) := State.writeBytes_payload hp hlen bs _ hroom
      _ = s.received (op :: len :: (sofar ++ b :: bs)) := by rw [List.append_assoc, List.singleton_append]

/-- A whole frame on a link that is IDLE is examined at its check byte (R160). -/
theorem State.writeBytes_frame (h : s.LinkReady) {payload : List Byte} (hlen : payload.length = len.toNat)
    (hmax : len.toNat ≤ 80) (check : Byte) :
    s.writeBytes ([op, len] ++ payload ++ [check]) = s.examine op len payload check := by
  have hidle : ({ s with link := .idle } : State) = s := by rw [← h.2]
  calc s.writeBytes ([op, len] ++ payload ++ [check])
    _ = ((s.received [op, len]).writeBytes payload).writeBytes [check] := by
      rw [State.writeBytes_append, State.writeBytes_append, State.writeBytes_header h,
        State.receive_partial hmax (Nat.zero_le _)]
    _ = (s.received (op :: len :: payload)).writeByte check := by
      rw [State.writeBytes_payload h.1 hmax payload [] (by simp [hlen])]; rfl
    _ = s.receive (op :: len :: (payload ++ [check])) := State.writeByte_received h.1 _ check
    _ = s.examine op len payload check := by rw [State.receive_complete hlen hmax, hidle]

/-- A sound frame whose payload is not of the length its opcode requires (R160 test 3). -/
theorem State.writeBytes_badLength (h : s.LinkReady) {payload : List Byte} (hmax : payload.length ≤ 80)
    (hread : readCommand op.toNat payload = .badLength) :
    s.writeBytes (sealFrame (op :: byteOf payload.length :: payload)) =
      s.answerWith payload.length (replyOnly .badLength) := by
  have hlen := toNat_byteOf (n := payload.length) (by omega)
  have hsum := bytesSum_sealFrame (op :: byteOf payload.length :: payload)
  rw [sealFrame] at hsum ⊢
  refine (State.writeBytes_frame h hlen.symm (hlen.symm ▸ hmax) _).trans ?_
  rw [State.examine, hsum, hread]
  rfl

/-- Past an overlong length byte the rest of the frame is discarded (R158). -/
theorem State.overlong_writeBytes (hp : s.preset = false) : ∀ bs : List Byte, s.overlong.writeBytes bs = s.overlong
  | [] => rfl
  | b :: bs => by
    have hbyte : s.overlong.writeByte b = s.overlong := if_neg (Bool.eq_false_iff.1 hp)
    calc s.overlong.writeBytes (b :: bs)
      _ = (s.overlong.writeByte b).writeBytes bs := rfl
      _ = s.overlong := by rw [hbyte, State.overlong_writeBytes hp bs]

theorem State.writeBytes_overlong (h : s.LinkReady) (hlen : 80 < len.toNat) (rest : List Byte) :
    s.writeBytes ([op, len] ++ rest) = s.overlong := by
  rw [State.writeBytes_append, State.writeBytes_header h, State.receive_overlong hlen, State.overlong_writeBytes h.1]

end

/-! ### LOAD CELLS whose run is of no word or of too many (R156, R158, R160) -/

/-- The payload of LOAD CELLS (R180). -/
def loadPayload (start : Half) (words : List Word) : List Byte := bytesOfHalf start ++ words.flatMap bytesOfWord

section
variable {s : State} {start : Half} {words : List Word}

theorem commandFrame_loadCells :
    commandFrame (.loadCells start words) =
      sealFrame (0x41 :: byteOf (loadPayload start words).length :: loadPayload start words) := rfl

theorem length_loadPayload : (loadPayload start words).length = 2 + 4 * words.length := by
  rw [loadPayload, List.length_append, length_flatMap_bytesOfWord]
  rfl

theorem readCommand_loadPayload (h : ¬ (1 ≤ words.length ∧ words.length ≤ 12)) :
    readCommand (0x41 : Byte).toNat (loadPayload start words) = .badLength := by
  have hwords : wordsOfBytes (words.flatMap bytesOfWord) = some words := wordsOfBytes_flatMap words
  simp [readCommand, loadPayload, bytesOfHalf, hwords, h]

theorem exec_loadCells_of_run (hready : s.LinkReady) (h : 1 ≤ words.length ∧ words.length ≤ 12) :
    exec (.loadCells start words) s = .next (s.execute (2 + 4 * words.length) (cmdLoadCells start words)) := by
  calc exec (.loadCells start words) s
    _ = sendFrame (.loadCells start words) _ s := if_neg (by omega)
    _ = _ := by rw [sendFrame_ready hready, if_pos h]

/-- A run that the link does not pass reaches it byte by byte (log entry 11). -/
theorem exec_loadCells_of_not_run (hready : s.LinkReady) (h : ¬ (1 ≤ words.length ∧ words.length ≤ 12))
    (hframe : words.length ≤ 63) :
    exec (.loadCells start words) s = .next (s.writeBytes (commandFrame (.loadCells start words))) := by
  calc exec (.loadCells start words) s
    _ = sendFrame (.loadCells start words) _ s := if_neg (by omega)
    _ = _ := by rw [sendFrame_ready hready, if_neg h]

end

/-- Settles O45: a run of 1 to 12 words is `cmdLoadCells`; the frame of any other is written byte by byte, and its length byte
or the length its opcode requires turns it away. -/
theorem loadCellsWritesTheRun : Obligations.LoadCellsWritesTheRun := by
  refine ⟨fun s start words hready hsome hmost => ?run, fun start words s hready => ?noRun⟩
  case run =>
    have hexec {t : State} {r : Reply} (hcmd : cmdLoadCells start words s = (t, r)) :
        exec (.loadCells start words) s = .next (t.answerWith (2 + 4 * words.length) r) := by
      rw [exec_loadCells_of_run hready ⟨hsome, hmost⟩, State.execute, hcmd]
    refine ⟨fun hpast => hexec (cmdLoadCells_of_bad hpast), fun hfit hmeets => hexec ?busy,
      fun hfit hclear hwf => ⟨_, hexec ?written, writeRun_wf words hfit hwf,
        fun k w hw => readCell_writeRun_word words hfit hwf hw,
        fun n hout => readCell_writeRun_outside words hfit hwf hout⟩⟩
    case busy => rw [cmdLoadCells_of_fits hsome hfit, if_pos (State.meetsEngaged_iff.2 hmeets)]
    case written => rw [cmdLoadCells_of_fits hsome hfit, if_neg (State.not_meetsEngaged_iff.2 hclear)]
  case noRun =>
    have hlength := length_loadPayload (start := start) (words := words)
    refine ⟨fun hcount => ?badLength, fun hmore hmost => ?overlong, fun hmany => if_pos hmany⟩
    case badLength =>
      have hnot : ¬ (1 ≤ words.length ∧ words.length ≤ 12) := by omega
      rw [exec_loadCells_of_not_run hready hnot (by omega), commandFrame_loadCells,
        State.writeBytes_badLength hready (by omega) (readCommand_loadPayload hnot), hlength]
    case overlong =>
      have hbyte : 80 < (byteOf (loadPayload start words).length).toNat := by
        rw [toNat_byteOf (by omega)]; omega
      rw [exec_loadCells_of_not_run hready (by omega) hmost, commandFrame_loadCells]
      exact congrArg Host.Outcome.next (State.writeBytes_overlong hready hbyte _)

end Sys2Proof.Machine

namespace Sys2Proof.Machine

-- One proof at a time: proofs in parallel wait for one another on threads of their own, each with its stack.
set_option Elab.async false

/-! ### The list control byte (R180) -/

theorem exists_exhaustionCode_iff {c : BitVec 2} : (∃ x, exhaustionCode x = c) ↔ c.toNat ≤ 2 := by
  constructor
  · rintro ⟨x, rfl⟩
    cases x <;> decide
  · intro hle
    have hc : c = 0 ∨ c = 1 ∨ c = 2 := by bv_omega
    rcases hc with rfl | rfl | rfl
    · exact ⟨.pass, rfl⟩
    · exact ⟨.trap, rfl⟩
    · exact ⟨.refuse, rfl⟩

theorem listControlOf_eq_some {b : Byte} {x : Exhaustion} {reload : Bool} :
    listControlOf b = some (x, reload) ↔
      b.toNat < 8 ∧ exhaustionCode x = b.extractLsb' 0 2 ∧ b.getLsbD 2 = reload := by
  have hhigh : b.extractLsb' 3 5 = 0 ↔ b.toNat < 8 := highBits_eq_zero_iff (k := 3) (m := 5) b
  rw [listControlOf, Option.ite_none_right_eq_some, hhigh]
  generalize b.extractLsb' 0 2 = c
  generalize b.getLsbD 2 = r
  refine and_congr_right fun _ => ?_
  cases x <;> decide +revert

/-! ### The outcomes of SET LIST (R125) -/

section
variable {s : State} {list control : Byte} {first length : Half}

/-- The tests of SET LIST on its payload (R123, R125, R180). -/
def ListPayloadSound (list control : Byte) (first length : Half) : Prop :=
  list.toNat < 8 ∧ 1 ≤ length.toNat ∧ first.toNat + length.toNat ≤ 512 ∧ control.toNat < 8 ∧
    (control.extractLsb' 0 2).toNat ≤ 2

theorem ListPayloadSound.of_some {id : ListId} {x : Exhaustion} {reload : Bool} (hlist : listIdOf list = some id)
    (hcontrol : listControlOf control = some (x, reload)) (harea : areaOk first.toNat length.toNat = true) :
    ListPayloadSound list control first length := by
  obtain ⟨hbits, hcode, -⟩ := listControlOf_eq_some.1 hcontrol
  obtain ⟨hlength, hend⟩ := areaOk_iff.1 harea
  have hid : list.toNat < 8 := by
    refine Nat.lt_of_not_le fun hge => ?_
    rw [listIdOf_eq_none hge] at hlist
    cases hlist
  exact ⟨hid, hlength, hend, hbits, exists_exhaustionCode_iff.1 ⟨x, hcode⟩⟩

theorem cmdSetList_of_bad (h : ¬ ListPayloadSound list control first length) :
    cmdSetList list first length control s = (s, replyOnly .badParam) := by
  unfold cmdSetList
  split
  · next hlist hcontrol harea => exact absurd (.of_some hlist hcontrol harea) h
  · next hlist hcontrol harea => exact absurd (.of_some hlist hcontrol harea) h
  · rfl

variable {l : ListOrdinal} {x : Exhaustion} {reload : Bool}

theorem cmdSetList_of_answer (hlist : listIdOf list = some (.answer l))
    (hcontrol : listControlOf control = some (x, reload)) (harea : areaOk first.toNat length.toNat = true) :
    cmdSetList list first length control s =
      if s.answerLists[l].state ≠ .idle then (s, replyOnly .busy)
      else ((s.setAnswerList l
        { first := first.toNat, length := length.toNat, exhaustion := x, reload := reload, state := .idle,
          position := first.toNat, remaining := 0 }).openEpisode, replyOnly .ok) := by
  simp only [cmdSetList, hlist, hcontrol, harea]

theorem cmdSetList_of_capture (hlist : listIdOf list = some (.capture l))
    (hcontrol : listControlOf control = some (x, reload)) (harea : areaOk first.toNat length.toNat = true) :
    cmdSetList list first length control s =
      if s.captureLists[l].state ≠ .idle then (s, replyOnly .busy)
      else ((s.setCaptureList l
        { first := first.toNat, length := length.toNat, exhaustion := x, state := .idle, head := 0,
          count := 0 }).openEpisode, replyOnly .ok) := by
  simp only [cmdSetList, hlist, hcontrol, harea]

end

/-- Settles O44: past the tests on the payload a list is set unless it is engaged. -/
theorem setListWritesTheDescriptor : Obligations.SetListWritesTheDescriptor := by
  intro s list control first length hready sound
  have hcontrol (h : sound) : ∃ x, exhaustionCode x = control.extractLsb' 0 2 ∧
      listControlOf control = some (x, control.getLsbD 2) := by
    obtain ⟨-, -, -, hbits, hcode⟩ := h
    obtain ⟨x, hx⟩ := exists_exhaustionCode_iff.2 hcode
    exact ⟨x, hx, listControlOf_eq_some.2 ⟨hbits, hx, rfl⟩⟩
  have harea (h : sound) : areaOk first.toNat length.toNat = true := by
    obtain ⟨-, hlength, hend, -⟩ := h
    exact areaOk_iff.2 ⟨hlength, hend⟩
  refine ⟨fun hbad => ?bad, fun l hsound hl => ?answer, fun l hsound hl => ?capture⟩
  case bad => exact exec_of_cmd hready (cmdSetList_of_bad hbad) fun _ => rfl
  case answer =>
    obtain ⟨x, hx, hx'⟩ := hcontrol hsound
    have hcmd := cmdSetList_of_answer (s := s) (listIdOf_eq_answer hl) hx' (harea hsound)
    exact ⟨fun hengaged => exec_of_cmd hready (hcmd.trans (if_pos hengaged)) fun _ => rfl,
      fun hidle => ⟨x, hx, exec_of_cmd hready (hcmd.trans (if_neg (Decidable.not_not.2 hidle))) fun _ => rfl⟩⟩
  case capture =>
    obtain ⟨x, hx, hx'⟩ := hcontrol hsound
    have hcmd := cmdSetList_of_capture (s := s) (listIdOf_eq_capture hl) hx' (harea hsound)
    exact ⟨fun hengaged => exec_of_cmd hready (hcmd.trans (if_pos hengaged)) fun _ => rfl,
      fun hidle => ⟨x, hx, exec_of_cmd hready (hcmd.trans (if_neg (Decidable.not_not.2 hidle))) fun _ => rfl⟩⟩

/-! ### The outcomes of ARM LIST and DISARM LIST (R126, R127) -/

theorem CaptureList.armed_of_room {c : CaptureList} (h : c.count ≠ c.length) :
    c.armed = { c with state := .armed } := if_neg h

theorem CaptureList.armed_of_full {c : CaptureList} (h : c.count = c.length) :
    c.armed = { c with state := .full } := if_pos h

section
variable {s : State} {list : Byte} {l : ListOrdinal}

theorem cmdArmList_of_bad (h : 8 ≤ list.toNat) : cmdArmList list s = (s, replyOnly .badParam) := by
  simp only [cmdArmList, listIdOf_eq_none h]

theorem cmdArmList_of_answer (hl : l.val = list.toNat) :
    cmdArmList list s =
      if s.answerLists[l].state ≠ .idle then (s, replyOnly .busy)
      else if s.meetsEngaged s.answerLists[l].area then (s, replyOnly .overlap)
      else ((s.setAnswerList l { s.answerLists[l] with
        state := .armed, position := s.answerLists[l].first, remaining := s.answerLists[l].length }).openEpisode,
        replyOnly .ok) := by
  simp only [cmdArmList, listIdOf_eq_answer hl]

theorem cmdArmList_of_capture (hl : 4 + l.val = list.toNat) :
    cmdArmList list s =
      if s.captureLists[l].state ≠ .idle then (s, replyOnly .busy)
      else if s.meetsEngaged s.captureLists[l].area then (s, replyOnly .overlap)
      else ((if s.captureLists[l].armed.state = .full then
          (s.setCaptureList l s.captureLists[l].armed).postCaptureFull l
        else s.setCaptureList l s.captureLists[l].armed).openEpisode, replyOnly .ok) := by
  simp only [cmdArmList, listIdOf_eq_capture hl]

theorem cmdDisarmList_of_bad (h : 8 ≤ list.toNat) : cmdDisarmList list s = (s, replyOnly .badParam) := by
  simp only [cmdDisarmList, listIdOf_eq_none h]

theorem cmdDisarmList_of_answer (hl : l.val = list.toNat) :
    cmdDisarmList list s =
      ((s.setAnswerList l { s.answerLists[l] with state := .idle }).openEpisode, replyOnly .ok) := by
  simp only [cmdDisarmList, listIdOf_eq_answer hl]

theorem cmdDisarmList_of_capture (hl : 4 + l.val = list.toNat) :
    cmdDisarmList list s =
      ((s.setCaptureList l { s.captureLists[l] with state := .idle }).openEpisode, replyOnly .ok) := by
  simp only [cmdDisarmList, listIdOf_eq_capture hl]

end

theorem exec_armList {s t : State} {list : Byte} {r : Reply} (hready : s.LinkReady) (h : cmdArmList list s = (t, r)) :
    exec (.armList list) s = .next (t.answerWith 1 r) :=
  exec_of_cmd hready h fun _ => rfl

/-- Settles O46: a list that ARM LIST finds IDLE is engaged unless its area meets an engaged one; DISARM LIST
looks at no state. -/
theorem armAndDisarmList : Obligations.ArmAndDisarmList := by
  refine ⟨fun s list hready => ⟨fun hbad => ?armBad, fun l hl => ?armAnswer, fun l hl => ?armCapture⟩,
    fun s list hready => ⟨fun hbad => ?disarmBad, fun l hl => ?disarmAnswer, fun l hl => ?disarmCapture⟩⟩
  case armBad => exact exec_armList hready (cmdArmList_of_bad hbad)
  case armAnswer =>
    have hcmd := cmdArmList_of_answer (s := s) hl
    refine ⟨fun hengaged => exec_armList hready (hcmd.trans (if_pos hengaged)),
      fun hidle hmeets => exec_armList hready ?_,
      fun hidle hclear => exec_armList hready ?_⟩
    · rw [hcmd, if_neg (Decidable.not_not.2 hidle)]
      exact if_pos (State.meetsEngaged_iff.2 hmeets)
    · rw [hcmd, if_neg (Decidable.not_not.2 hidle)]
      exact if_neg (State.not_meetsEngaged_iff.2 hclear)
  case armCapture =>
    have hcmd := cmdArmList_of_capture (s := s) hl
    refine ⟨fun hengaged => exec_armList hready (hcmd.trans (if_pos hengaged)),
      fun hidle hmeets => exec_armList hready ?_,
      fun hidle hclear hroom => exec_armList hready ?_, fun hidle hclear hfull => exec_armList hready ?_⟩
    · rw [hcmd, if_neg (Decidable.not_not.2 hidle)]
      exact if_pos (State.meetsEngaged_iff.2 hmeets)
    · rw [hcmd, if_neg (Decidable.not_not.2 hidle), CaptureList.armed_of_room hroom]
      exact if_neg (State.not_meetsEngaged_iff.2 hclear)
    · rw [hcmd, if_neg (Decidable.not_not.2 hidle), CaptureList.armed_of_full hfull]
      exact if_neg (State.not_meetsEngaged_iff.2 hclear)
  case disarmBad => exact exec_of_cmd hready (cmdDisarmList_of_bad hbad) fun _ => rfl
  case disarmAnswer => exact exec_of_cmd hready (cmdDisarmList_of_answer hl) fun _ => rfl
  case disarmCapture => exact exec_of_cmd hready (cmdDisarmList_of_capture hl) fun _ => rfl

/-! ### The outcomes of DRAIN CAPTURE (R132) -/

theorem CaptureList.drained_of_pos {c : CaptureList} {m : Nat} (h : 0 < m) :
    c.drained m = { c with
      head := (c.head + m) % c.length
      count := c.count - m
      state := if c.state = .full then .armed else c.state } := by
  simp only [CaptureList.drained, h, and_true]

section
variable {s : State} {list n : Byte} {l : ListOrdinal}

theorem cmdDrainCapture_of_bad (h : list.toNat < 4 ∨ 8 ≤ list.toNat ∨ n = 0 ∨ 9 ≤ n.toNat) :
    cmdDrainCapture list n s = (s, replyOnly .badParam) := by
  unfold cmdDrainCapture
  split
  · next l hid =>
    refine if_pos ?_
    rcases h with hanswer | hbig | rfl | hmany
    · rw [listIdOf_eq_answer (l := ⟨list.toNat, hanswer⟩) rfl] at hid
      cases hid
    · rw [listIdOf_eq_none hbig] at hid
      cases hid
    · exact .inl Nat.one_pos
    · exact .inr hmany
  · rfl

theorem cmdDrainCapture_of_capture (hl : 4 + l.val = list.toNat) (hsome : 1 ≤ n.toNat) (hmost : n.toNat ≤ 8) :
    cmdDrainCapture list n s =
      (if min n.toNat s.captureLists[l].count = 0 then s
        else (s.setCaptureList l
          (s.captureLists[l].drained (min n.toNat s.captureLists[l].count))).openEpisode,
       replyOk (byteOf (min n.toNat s.captureLists[l].count) ::
        (List.range (min n.toNat s.captureLists[l].count)).flatMap fun k =>
          recordBytes (readCell s.cells (s.captureLists[l].recordCell k)))) := by
  have hcount : ¬ (n.toNat < 1 ∨ 8 < n.toNat) := by omega
  simp only [cmdDrainCapture, listIdOf_eq_capture hl, if_neg hcount]

end

/-- Settles O47: a capture list with no record is left as it is; one with records loses the oldest. -/
theorem drainCaptureRemovesRecords : Obligations.DrainCaptureRemovesRecords := by
  intro s list n hready
  refine ⟨fun hbad => exec_of_cmd hready (cmdDrainCapture_of_bad hbad) fun _ => rfl, fun l hl hsome hmost => ?_⟩
  intro c m record reply
  have hcmd := cmdDrainCapture_of_capture (s := s) hl hsome hmost
  refine ⟨fun hnone => ?none, fun hrecords => ?records⟩
  case none =>
    have hm : min n.toNat s.captureLists[l].count = 0 := by rw [show _ = 0 from hnone, Nat.min_zero]
    rw [hm, if_pos rfl] at hcmd
    exact exec_of_cmd hready hcmd fun _ => rfl
  case records =>
    have hm : 0 < m := Nat.lt_min.2 ⟨hsome, hrecords⟩
    rw [if_neg (Nat.ne_of_gt hm), CaptureList.drained_of_pos hm] at hcmd
    exact exec_of_cmd hready hcmd fun _ => rfl

end Sys2Proof.Machine

namespace Sys2Proof.Machine

-- One proof at a time: proofs in parallel wait for one another on threads of their own, each with its stack.
set_option Elab.async false

/-! ### One posting, and ATTN (R141, R148) -/

theorem post_of_lt {α : Type} {rec : CauseRecord α} (d : α) (h : rec.occurrences < 255) :
    post (some rec) d = some { rec with occurrences := rec.occurrences + 1 } := if_pos h

theorem post_of_saturated {α : Type} {rec : CauseRecord α} (d : α) (h : 255 ≤ rec.occurrences) :
    post (some rec) d = some rec := if_neg (Nat.not_lt.2 h)

theorem Causes.getLsbD_setBits_iff {k : Causes} {n : Nat} :
    k.setBits.getLsbD n = true ↔ ∃ v, k.views[n]? = some v ∧ v.isSet = true := by
  constructor
  · intro hbit
    cases hv : k.views[n]? with
    | some v => exact ⟨v, rfl, (Causes.getLsbD_setBits_of_view hv).symm.trans hbit⟩
    | none =>
      have hbig : 10 ≤ n := List.getElem?_eq_none_iff.1 hv
      rw [BitVec.getLsbD_of_ge _ _ hbig] at hbit
      cases hbit
  · rintro ⟨v, hv, hset⟩
    exact (Causes.getLsbD_setBits_of_view hv).trans hset

theorem ne_zero_iff_exists_getLsbD {w : Nat} {b : BitVec w} : b ≠ 0 ↔ ∃ n, b.getLsbD n = true := by
  have hzero (n : Nat) : (0 : BitVec w).getLsbD n = false := BitVec.getLsbD_zero
  constructor
  · intro hne
    refine Classical.byContradiction fun hclear => hne (BitVec.eq_of_getLsbD_eq fun n _ => ?_)
    exact (Bool.eq_false_iff.2 fun hset => hclear ⟨n, hset⟩).trans (hzero n).symm
  · intro ⟨n, hset⟩ hb
    rw [hb, hzero] at hset
    cases hset

/-- ATTN is the meeting of the set causes and the enabled ones (R148). -/
theorem State.attn_iff (s : State) :
    s.attn = true ↔ ∃ n v, s.causes.views[n]? = some v ∧ v.isSet = true ∧ s.enabled.getLsbD n = true := by
  rw [State.attn, decide_eq_true_iff, ne_zero_iff_exists_getLsbD]
  refine exists_congr fun n => ?_
  rw [BitVec.getLsbD_and, Bool.and_eq_true, Causes.getLsbD_setBits_iff]
  simp only [← exists_and_right, and_assoc]

/-- Settles O48: the cases of a posting, and ATTN bit by bit. -/
theorem postingAndAttn : Obligations.PostingAndAttn :=
  ⟨fun _ _ => rfl, fun _ _ d h => post_of_lt d h, fun _ _ d h => post_of_saturated d h, State.attn_iff⟩

/-! ### A set of causes on the wire (R181) -/

theorem causeSetOf_eq (h : Half) : causeSetOf h = if h.toNat < 1024 then some (h.setWidth 10) else none := by
  have hhigh : h.extractLsb' 10 6 = 0 ↔ h.toNat < 1024 := highBits_eq_zero_iff (k := 10) (m := 6) h
  have hlow : h.extractLsb' 0 10 = h.setWidth 10 := BitVec.setWidth_eq_extractLsb' (by decide) |>.symm
  simp only [causeSetOf, hhigh, hlow]

section
variable {causes : Half}

theorem causeSetOf_of_bad (h : 1024 ≤ causes.toNat) : causeSetOf causes = none := by
  rw [causeSetOf_eq, if_neg (Nat.not_lt.2 h)]

theorem causeSetOf_of_lt (h : causes.toNat < 1024) : causeSetOf causes = some (causes.setWidth 10) := by
  rw [causeSetOf_eq, if_pos h]

theorem setWidth_ten_append (h : causes.toNat < 1024) : (0#6) ++ causes.setWidth 10 = causes := by
  apply BitVec.eq_of_toNat_eq
  rw [BitVec.toNat_append, BitVec.toNat_setWidth, Nat.mod_eq_of_lt h]
  simp

theorem causeSetBytes_setWidth (h : causes.toNat < 1024) : causeSetBytes (causes.setWidth 10) = bytesOfHalf causes := by
  rw [causeSetBytes, setWidth_ten_append h]

/-- A sound set names the same causes in its ten bits as on the wire. -/
theorem getLsbD_causeSet (h : causes.toNat < 1024) (n : Nat) : (causes.setWidth 10).getLsbD n = causes.getLsbD n := by
  rw [BitVec.getLsbD_setWidth]
  by_cases hn : n < 10
  · rw [decide_eq_true hn, Bool.true_and]
  · have hsmall : causes.toNat < 2 ^ n :=
      Nat.lt_of_lt_of_le h (Nat.pow_le_pow_right (by decide) (Nat.le_of_not_lt hn) : 2 ^ 10 ≤ 2 ^ n)
    rw [decide_eq_false hn, Bool.false_and, BitVec.getLsbD, Nat.testBit_lt_two_pow hsmall]

/-! ### The outcomes of CLEAR ATTENTION (R150) -/

theorem length_clearedBytes (k : Causes) (b : BitVec 10) : (clearedBytes k b).length = 10 := rfl

theorem getElem?_clearedBytes {k : Causes} {n : Nat} {v : CauseView} (b : BitVec 10) (h : k.views[n]? = some v) :
    (clearedBytes k b)[n]? = some (if b.getLsbD n then byteOf v.occurrences else 0) := by
  simp [clearedBytes, h]

variable {s : State}

theorem cmdClearAttention_of_bad (h : 1024 ≤ causes.toNat) :
    cmdClearAttention causes s = (s, replyOnly .badParam) := by
  simp only [cmdClearAttention, causeSetOf_of_bad h]

theorem cmdClearAttention_of_lt (h : causes.toNat < 1024) :
    cmdClearAttention causes s = ({ s with causes := s.causes.clearSet (causes.setWidth 10) },
      replyOk (clearedBytes s.causes (causes.setWidth 10))) := by
  simp only [cmdClearAttention, causeSetOf_of_lt h]

/-! ### The outcomes of SET ATTENTION ENABLE (R151) -/

theorem cmdSetAttentionEnable_of_bad (h : 1024 ≤ causes.toNat) :
    cmdSetAttentionEnable causes s = (s, replyOnly .badParam) := by
  simp only [cmdSetAttentionEnable, causeSetOf_of_bad h]

theorem cmdSetAttentionEnable_of_lt (h : causes.toNat < 1024) :
    cmdSetAttentionEnable causes s = ({ s with enabled := causes.setWidth 10 }, replyOk (bytesOfHalf causes)) := by
  simp only [cmdSetAttentionEnable, causeSetOf_of_lt h, causeSetBytes_setWidth h]

/-- ATTN under an enable set carried on the wire. -/
theorem State.attn_iff_of_enabled (h : causes.toNat < 1024) (henabled : s.enabled = causes.setWidth 10) :
    s.attn = true ↔ ∃ n v, s.causes.views[n]? = some v ∧ v.isSet = true ∧ causes.getLsbD n = true := by
  simp only [State.attn_iff, henabled, getLsbD_causeSet h]

end

/-- Settles O49: the ten records of `Causes.clearSet` are the ones kept or cleared, and `clearedBytes` counts the latter. -/
theorem clearAttentionClears : Obligations.ClearAttentionClears := by
  intro s causes hready
  refine ⟨fun hbad => exec_of_cmd hready (cmdClearAttention_of_bad hbad) fun _ => rfl, fun hlt => ?_⟩
  simp only [← getLsbD_causeSet hlt]
  exact ⟨s.causes.clearSet (causes.setWidth 10), rfl, rfl, rfl, rfl, rfl, rfl, rfl, rfl, rfl, rfl,
    clearedBytes s.causes (causes.setWidth 10), length_clearedBytes _ _, fun _ _ hv => getElem?_clearedBytes _ hv,
    exec_of_cmd hready (cmdClearAttention_of_lt hlt) fun _ => rfl⟩

/-- Settles O50: ATTN is read from the enable set written, under the records as they stand or as a posting leaves them. -/
theorem setAttentionEnableReplaces : Obligations.SetAttentionEnableReplaces := by
  intro s causes hready
  exact ⟨fun hbad => exec_of_cmd hready (cmdSetAttentionEnable_of_bad hbad) fun _ => rfl, fun hlt =>
    ⟨_, exec_of_cmd hready (cmdSetAttentionEnable_of_lt hlt) fun _ => rfl, rfl, State.attn_iff_of_enabled hlt rfl,
      fun _ => State.attn_iff_of_enabled hlt rfl⟩⟩

end Sys2Proof.Machine

namespace Sys2Proof.Machine

-- One proof at a time: proofs in parallel wait for one another on threads of their own, each with its stack.
set_option Elab.async false

/-! ### Bytes of fields, read and written back (R174, R180) -/

theorem bytesOfHalf_halfOfBytes (b1 b0 : Byte) : bytesOfHalf (halfOfBytes b1 b0) = [b1, b0] := by
  have h1 : (halfOfBytes b1 b0).extractLsb' 8 8 = b1 := BitVec.extractLsb'_append_eq_left
  have h0 : (halfOfBytes b1 b0).extractLsb' 0 8 = b0 := BitVec.extractLsb'_append_eq_right
  rw [bytesOfHalf, h1, h0]

theorem bytesOfWord_wordOfBytes (b3 b2 b1 b0 : Byte) :
    bytesOfWord (wordOfBytes b3 b2 b1 b0) = [b3, b2, b1, b0] := by
  have above {n : Nat} (x : BitVec n) (lo : Byte) (k : Nat) : (x ++ lo).extractLsb' (k + 8) 8 = x.extractLsb' k 8 :=
    BitVec.extractLsb'_append_eq_of_le (Nat.le_add_left 8 k)
  have h3 : (wordOfBytes b3 b2 b1 b0).extractLsb' 24 8 = b3 :=
    (above _ _ 16).trans <| (above _ _ 8).trans BitVec.extractLsb'_append_eq_left
  have h2 : (wordOfBytes b3 b2 b1 b0).extractLsb' 16 8 = b2 :=
    (above _ _ 8).trans <| (above _ _ 0).trans BitVec.extractLsb'_append_eq_right
  have h1 : (wordOfBytes b3 b2 b1 b0).extractLsb' 8 8 = b1 := (above _ _ 0).trans BitVec.extractLsb'_append_eq_right
  have h0 : (wordOfBytes b3 b2 b1 b0).extractLsb' 0 8 = b0 := BitVec.extractLsb'_append_eq_right
  rw [bytesOfWord, h3, h2, h1, h0]

/-- Bytes that make whole words are the bytes of those words. -/
theorem flatMap_of_wordsOfBytes : ∀ {bs : List Byte} {ws : List Word}, wordsOfBytes bs = some ws →
    ws.flatMap bytesOfWord = bs
  | [], _, h => by cases h; rfl
  | b3 :: b2 :: b1 :: b0 :: rest, ws, h => by
    obtain ⟨vs, hvs, rfl⟩ := Option.map_eq_some_iff.1 h
    rw [List.flatMap_cons, bytesOfWord_wordOfBytes, flatMap_of_wordsOfBytes hvs]
    rfl

/-- Four bytes for each of k words are whole words (R180). -/
theorem exists_wordsOfBytes : ∀ {k : Nat} {bs : List Byte}, bs.length = 4 * k →
    ∃ ws, wordsOfBytes bs = some ws ∧ ws.length = k
  | 0, [], _ => ⟨[], rfl, rfl⟩
  | k + 1, b3 :: b2 :: b1 :: b0 :: rest, h => by
    obtain ⟨ws, hws, hlen⟩ := exists_wordsOfBytes (k := k) (bs := rest) (by simp at h; omega)
    exact ⟨wordOfBytes b3 b2 b1 b0 :: ws, by rw [wordsOfBytes, hws]; rfl, by rw [List.length_cons, hlen]⟩

/-! ### A command and its opcode and payload (R160, R175) -/

/-- A well-formed command's opcode and payload read back as that command. -/
theorem readCommand_of_commandPayload (c : Instr) : Laws.frameRoundTrip.Statement c := by
  cases c with
  | identify => exact Laws.frameRoundTrip.identify
  | survey => exact Laws.frameRoundTrip.survey
  | writeWindow w => exact Laws.frameRoundTrip.writeWindow w
  | readWindow index flag => exact Laws.frameRoundTrip.readWindow index flag
  | setArbitration o n f u y => exact Laws.frameRoundTrip.setArbitration o n f u y
  | readArbitration => exact Laws.frameRoundTrip.readArbitration
  | take => exact Laws.frameRoundTrip.take
  | peek ctx => exact Laws.frameRoundTrip.peek ctx
  | release ctx ticket => exact Laws.frameRoundTrip.release ctx ticket
  | releaseWithData ctx ticket lanes data => exact Laws.frameRoundTrip.releaseWithData ctx ticket lanes data
  | answer ctx ticket data => exact Laws.frameRoundTrip.answer ctx ticket data
  | refuse ctx ticket => exact Laws.frameRoundTrip.refuse ctx ticket
  | extend ctx ticket code => exact Laws.frameRoundTrip.extend ctx ticket code
  | setList list first length control => exact Laws.frameRoundTrip.setList list first length control
  | loadCells start words => exact Laws.frameRoundTrip.loadCells start words
  | armList list => exact Laws.frameRoundTrip.armList list
  | disarmList list => exact Laws.frameRoundTrip.disarmList list
  | readList list => exact Laws.frameRoundTrip.readList list
  | drainCapture list n => exact Laws.frameRoundTrip.drainCapture list n
  | readAttention cause => exact Laws.frameRoundTrip.readAttention cause
  | clearAttention causes => exact Laws.frameRoundTrip.clearAttention causes
  | setAttentionEnable causes => exact Laws.frameRoundTrip.setAttentionEnable causes
  | gate code => exact Laws.frameRoundTrip.gate code
  | quiesce => exact Laws.frameRoundTrip.quiesce
  | softReset => exact Laws.frameRoundTrip.softReset
  | _ => intro _ _ _ h; cases h

/-- The other way round: an opcode and payload that read as a command are those of that command. -/
theorem commandPayload_of_readCommand {op : Nat} {payload : List Byte} {c : Instr}
    (h : readCommand op payload = .command c) :
    op < 256 ∧ commandPayload c = some (byteOf op, payload) ∧ c.wf = true := by
  unfold readCommand at h
  split at h
  case h_15 => -- 41h, LOAD CELLS
    split at h
    · next s1 s0 rest =>
      split at h
      · next words hwords =>
        split at h
        · next hrun =>
          cases h
          refine ⟨by decide, ?_, by simpa [Instr.wf, loadRunOk] using hrun⟩
          rw [commandPayload, bytesOfHalf_halfOfBytes, flatMap_of_wordsOfBytes hwords]
          rfl
        · cases h
      · cases h
    · cases h
  case h_26 => cases h -- any other opcode
  all_goals
    split at h
    · cases h
      exact ⟨by decide, by simp only [commandPayload, bytesOfHalf_halfOfBytes, bytesOfWord_wordOfBytes]; rfl, rfl⟩
    · cases h

/-- The payload lengths that an opcode requires (R175). -/
def PayloadFits (op n : Nat) : Prop :=
  (op ∈ [0x01, 0x02, 0x21, 0x30, 0x61, 0x6F] ∧ n = 0) ∨
  (op ∈ [0x31, 0x42, 0x43, 0x44, 0x50, 0x60] ∧ n = 1) ∨
  (op ∈ [0x11, 0x45, 0x51, 0x52] ∧ n = 2) ∨ (op ∈ [0x32, 0x35] ∧ n = 3) ∨ (op = 0x36 ∧ n = 4) ∨
  (op = 0x20 ∧ n = 5) ∨ (op = 0x40 ∧ n = 6) ∨ (op = 0x34 ∧ n = 7) ∨ (op = 0x33 ∧ n = 8) ∨ (op = 0x10 ∧ n = 17) ∨
  (op = 0x41 ∧ ∃ k, 1 ≤ k ∧ k ≤ 12 ∧ n = 2 + 4 * k)

theorem PayloadFits.le {op n : Nat} (h : PayloadFits op n) : n ≤ 80 := by
  unfold PayloadFits at h
  omega

theorem PayloadFits.of_commandPayload {c : Instr} {op : Byte} {payload : List Byte} (hw : c.wf = true)
    (h : commandPayload c = some (op, payload)) : PayloadFits op.toNat payload.length := by
  cases c with
  | loadCells start words =>
    cases h
    obtain ⟨hsome, hmost⟩ : 1 ≤ words.length ∧ words.length ≤ 12 := by simpa [Instr.wf, loadRunOk] using hw
    have hlength : (loadPayload start words).length = 2 + 4 * words.length := length_loadPayload
    iterate 10 right
    exact ⟨rfl, words.length, hsome, hmost, hlength⟩
  | _ => cases h <;> simp [PayloadFits, length_bytesOfHalf, length_bytesOfWord]

/-- The 25 opcodes, in the order of the payload lengths they require (R175). -/
def opcodes : List Nat :=
  [0x01, 0x02, 0x21, 0x30, 0x61, 0x6F, 0x31, 0x42, 0x43, 0x44, 0x50, 0x60, 0x11, 0x45, 0x51, 0x52, 0x32, 0x35, 0x36,
    0x20, 0x40, 0x34, 0x33, 0x10, 0x41]

theorem exists_payloadFits_iff {op : Nat} : (∃ n, PayloadFits op n) ↔ op ∈ opcodes := by
  have hrun : ∃ n k, 1 ≤ k ∧ k ≤ 12 ∧ n = 2 + 4 * k := ⟨6, 1, by decide⟩
  simp only [PayloadFits, exists_or, exists_and_left, exists_eq, and_true, hrun, opcodes, List.mem_cons,
    List.not_mem_nil, or_false, or_assoc]

theorem readCommand_unknownOp_iff {op : Nat} {payload : List Byte} :
    readCommand op payload = .unknownOp ↔ op ∉ opcodes := by
  unfold readCommand
  split
  case h_26 => -- any other opcode
    refine ⟨fun _ => ?_, fun _ => rfl⟩
    simp only [opcodes, List.mem_cons, List.not_mem_nil, or_false, not_or]
    repeat' apply And.intro
    all_goals assumption
  case h_15 => -- 41h, LOAD CELLS
    refine ⟨fun h => ?_, fun h => absurd (by decide) h⟩
    split at h
    · split at h
      · split at h <;> cases h
      · cases h
    · cases h
  all_goals
    refine ⟨fun h => ?_, fun h => absurd (by decide) h⟩
    split at h <;> cases h

/-- A payload of a length its opcode requires reads as a command (R160 test 3). -/
theorem exists_command_of_payloadFits {op : Nat} {payload : List Byte} (h : PayloadFits op payload.length) :
    ∃ c, readCommand op payload = .command c := by
  unfold PayloadFits at h
  simp only [List.mem_cons, List.not_mem_nil, or_false] at h
  rcases h with ⟨hop, hn⟩ | ⟨hop, hn⟩ | ⟨hop, hn⟩ | ⟨hop, hn⟩ | ⟨rfl, hn⟩ | ⟨rfl, hn⟩ | ⟨rfl, hn⟩ | ⟨rfl, hn⟩ |
    ⟨rfl, hn⟩ | ⟨rfl, hn⟩ | ⟨rfl, k, hsome, hmost, hn⟩
  · obtain rfl := List.length_eq_zero_iff.1 hn
    rcases hop with rfl | rfl | rfl | rfl | rfl | rfl <;> exact ⟨_, rfl⟩
  · obtain ⟨a, rfl⟩ := List.length_eq_one_iff.1 hn
    rcases hop with rfl | rfl | rfl | rfl | rfl | rfl <;> exact ⟨_, rfl⟩
  · match payload, hn with
    | [_, _], _ => rcases hop with rfl | rfl | rfl | rfl <;> exact ⟨_, rfl⟩
  · match payload, hn with
    | [_, _, _], _ => rcases hop with rfl | rfl <;> exact ⟨_, rfl⟩
  · match payload, hn with
    | [_, _, _, _], _ => exact ⟨_, rfl⟩
  · match payload, hn with
    | [_, _, _, _, _], _ => exact ⟨_, rfl⟩
  · match payload, hn with
    | [_, _, _, _, _, _], _ => exact ⟨_, rfl⟩
  · match payload, hn with
    | [_, _, _, _, _, _, _], _ => exact ⟨_, rfl⟩
  · match payload, hn with
    | [_, _, _, _, _, _, _, _], _ => exact ⟨_, rfl⟩
  · match payload, hn with
    | [_, _, _, _, _, _, _, _, _, _, _, _, _, _, _, _, _], _ => exact ⟨_, rfl⟩
  · match payload, hn with
    | [], hn | [_], hn => simp at hn; omega
    | s1 :: s0 :: rest, hn =>
      obtain ⟨words, hwords, hk⟩ := exists_wordsOfBytes (k := k) (bs := rest) (by simp at hn; omega)
      exact ⟨.loadCells (halfOfBytes s1 s0) words, by simp [readCommand, hwords, hk, hsome, hmost]⟩

/-- Settles O26: the opcodes are those some length fits, and a payload reads as a command exactly where its length
fits. -/
theorem opcodesAndPayloadLengths : Obligations.OpcodesAndPayloadLengths := by
  intro op payload
  refine ⟨?unknown, fun ⟨c, hc⟩ => ?command, exists_command_of_payloadFits⟩
  case unknown => rw [readCommand_unknownOp_iff, ← exists_payloadFits_iff, not_exists]; rfl
  case command =>
    obtain ⟨hop, hpayload, hw⟩ := commandPayload_of_readCommand hc
    exact toNat_byteOf hop ▸ PayloadFits.of_commandPayload hw hpayload

/-! ### The frame of a command (R156) -/

theorem commandFrame_of_payload {c : Instr} {op : Byte} {payload : List Byte}
    (h : commandPayload c = some (op, payload)) :
    commandFrame c = sealFrame (op :: byteOf payload.length :: payload) := by
  rw [commandFrame, h]

/-- Settles O27: the command of a frame is found by its opcode and its payload, whose length fits in a frame. -/
theorem framesAndCommandsAgree : Obligations.FramesAndCommandsAgree := by
  refine ⟨fun c op payload hw h => ?frame, fun op payload c h => ?command⟩
  case frame =>
    rw [commandFrame_of_payload h]
    exact ⟨readCommand_of_commandPayload c op payload hw h, (PayloadFits.of_commandPayload hw h).le,
      bytesSum_sealFrame _, rfl, length_sealFrame _⟩
  case command =>
    obtain ⟨-, hpayload, hw⟩ := commandPayload_of_readCommand h
    rw [byteOf_toNat] at hpayload
    exact ⟨hpayload, hw⟩

/-! ### The row of a framed command (R161; log entry 1) -/

/-- The row of a framed command: on an IDLE link its execution, elsewhere its bytes. -/
theorem exec_of_commandPayload {c : Instr} {op : Byte} {payload : List Byte} (hw : c.wf = true)
    (h : commandPayload c = some (op, payload)) (s : State) :
    exec c s = sendFrame c (fun u => u.run payload.length c) s := by
  cases c with
  | loadCells start words =>
    cases h
    have hrun : 1 ≤ words.length ∧ words.length ≤ 12 := by simpa [Instr.wf, loadRunOk] using hw
    have hlength : (loadPayload start words).length = 2 + 4 * words.length := length_loadPayload
    simp only [exec, execLoadCells, if_pos hrun, if_neg (show ¬ 63 < words.length by omega)]
    rw [← hlength]
    rfl
  | _ => cases h <;> rfl

/-! ### The examination (R160) -/

section
variable {s : State} {op len check : Byte} {payload : List Byte}

theorem State.examine_of_sum (h : bytesSum (op :: len :: payload ++ [check]) ≠ 0) :
    s.examine op len payload check = s.answerWith payload.length (replyOnly .checkFail) := if_pos h

theorem State.examine_of_unknownOp (hsum : bytesSum (op :: len :: payload ++ [check]) = 0)
    (h : readCommand op.toNat payload = .unknownOp) :
    s.examine op len payload check = s.answerWith payload.length (replyOnly .unknownOp) := by
  simp only [State.examine, hsum, h, ne_eq, not_true_eq_false, if_false]

theorem State.examine_of_badLength (hsum : bytesSum (op :: len :: payload ++ [check]) = 0)
    (h : readCommand op.toNat payload = .badLength) :
    s.examine op len payload check = s.answerWith payload.length (replyOnly .badLength) := by
  simp only [State.examine, hsum, h, ne_eq, not_true_eq_false, if_false]

theorem State.examine_of_command {c : Instr} (hsum : bytesSum (op :: len :: payload ++ [check]) = 0)
    (h : readCommand op.toNat payload = .command c) :
    s.examine op len payload check = s.run payload.length c := by
  simp only [State.examine, hsum, h, ne_eq, not_true_eq_false, if_false]

end

/-! ### A framed command and its bytes (R157 to R163; log entry 1) -/

/-- The bytes of a command's frame on a link that takes them are its execution (R160, R161). -/
theorem State.writeBytes_commandFrame {s : State} (hready : s.LinkReady) {c : Instr} {op : Byte} {payload : List Byte}
    (hw : c.wf = true) (h : commandPayload c = some (op, payload)) :
    s.writeBytes (commandFrame c) = s.run payload.length c := by
  have hmax : payload.length ≤ 80 := (PayloadFits.of_commandPayload hw h).le
  have hlen : (byteOf payload.length).toNat = payload.length := toNat_byteOf (by omega)
  have hsum := bytesSum_sealFrame (op :: byteOf payload.length :: payload)
  rw [commandFrame_of_payload h]
  rw [sealFrame] at hsum ⊢
  exact (State.writeBytes_frame hready hlen.symm (hlen.symm ▸ hmax) _).trans
    (State.examine_of_command hsum (readCommand_of_commandPayload c op payload hw h))

/-- The row of a framed command is its bytes where its execution on a link that takes it is. -/
theorem sendFrame_eq_writeBytes {c : Instr} {effect : State → State} {s : State}
    (h : s.LinkReady → effect s = s.writeBytes (commandFrame c)) :
    sendFrame c effect s = .next (s.writeBytes (commandFrame c)) := by
  unfold sendFrame
  split
  · next hp => rw [State.writeBytes_preset hp]
  · next hp =>
    split
    · next hl => rw [h ⟨Bool.eq_false_iff.2 hp, hl⟩]
    · rfl

/-- Settles O28: an IDLE link executes the command either way, and any other link meets the bytes either way. -/
theorem commandEqualsItsFrame : Obligations.CommandEqualsItsFrame := by
  intro c s hw hframed
  obtain ⟨⟨op, payload⟩, h⟩ := Option.ne_none_iff_exists'.1 hframed
  rw [exec_of_commandPayload hw h]
  exact sendFrame_eq_writeBytes fun hready => (State.writeBytes_commandFrame hready hw h).symm

end Sys2Proof.Machine

namespace Sys2Proof.Machine

-- One proof at a time: proofs in parallel wait for one another on threads of their own, each with its stack.
set_option Elab.async false

/-! ### The length of a response payload (R176 to R182) -/

/-- Every reply of this command fits in a frame (R156). -/
def RepliesFit (cmd : State → State × Reply) : Prop := ∀ s, (cmd s).2.payload.length ≤ 80

theorem length_replyOnly (st : Status) : (replyOnly st).payload.length ≤ 80 := Nat.zero_le _

theorem length_windowEntryBytes (i : WindowIndex) (w : Window) : (windowEntryBytes i w).length = 17 := rfl

theorem length_heldRecord (now : Nat) (c : ContextIndex) (o : OpenContext) (sl : Slot) (e : Entry) :
    (heldRecord now c o sl e).length ≤ 24 := by
  have hdata : (writeDataBytes e.req.access).length ≤ 4 := by
    cases e.req.access
    · exact Nat.zero_le _
    · exact Nat.le_of_eq rfl
  simp only [heldRecord, bytesOfAddr, List.length_append, List.length_cons, List.length_nil, length_bytesOfHalf,
    length_bytesOfWord]
  omega

theorem length_openContexts (s : State) : s.openContexts.length ≤ 4 :=
  Nat.le_trans (List.length_filterMap_le _ _) (Nat.le_of_eq List.length_finRange)

theorem length_recordBytes (c : Cell) : (recordBytes c).length = 8 := rfl

/-- The detail of a record is of at most nine bytes, that of DEADLINE (R181). -/
theorem length_detail_of_mem_views {k : Causes} {v : CauseView} (h : v ∈ k.views) : v.detail.length ≤ 9 := by
  have fits {α : Type} (r : Option (CauseRecord α)) {layout : α → List Byte} (hlayout : ∀ d, (layout d).length ≤ 9) :
      (viewOf r layout).detail.length ≤ 9 := by
    cases r with
    | none => exact Nat.zero_le _
    | some rec => exact hlayout rec.detail
  revert v
  simp only [Causes.views, List.forall_mem_cons]
  refine ⟨fits _ fun d => ?_, fits _ fun d => ?_, fits _ fun d => ?_, fits _ fun d => ?_, fits _ fun d => ?_,
    fits _ fun d => ?_, fits _ fun d => ?_, fits _ fun d => ?_, fits _ fun d => ?_, fits _ fun d => ?_,
    fun _ h => nomatch h⟩
  all_goals exact Nat.le_of_ble_eq_true rfl

/-! ### The replies of the commands fit -/

theorem repliesFit_survey : RepliesFit cmdSurvey := fun _ => Nat.le_of_ble_eq_true rfl

theorem repliesFit_writeWindow (w : WindowImage) : RepliesFit (cmdWriteWindow w) := by
  intro s
  unfold cmdWriteWindow
  split <;> exact length_replyOnly _

theorem repliesFit_readWindow (index flag : Byte) : RepliesFit (cmdReadWindow index flag) := by
  intro s
  unfold cmdReadWindow
  split
  · simp only [replyOk, List.length_append, length_windowEntryBytes, length_bytesOfHalf]
    decide
  · exact length_replyOnly _

theorem repliesFit_setArbitration (order nesting floor suppressed notifyOn : Byte) :
    RepliesFit (cmdSetArbitration order nesting floor suppressed notifyOn) := by
  intro s
  unfold cmdSetArbitration
  split
  · exact length_replyOnly _
  · split <;> exact length_replyOnly _

theorem repliesFit_readArbitration : RepliesFit cmdReadArbitration := by
  intro s
  have hopen := length_openContexts s
  have hbytes (o : ContextIndex × OpenContext) : (openContextBytes o).length = 4 := rfl
  have hsettings (a : Arbitration) : (arbitrationBytes a).length = 5 := rfl
  simp only [cmdReadArbitration, replyOk, List.length_append, List.length_cons, List.length_nil, List.length_map,
    List.length_finRange, List.length_flatMap, hbytes, List.map_const', List.sum_replicate_nat, hsettings,
    length_bytesOfHalf]
  omega

theorem repliesFit_take : RepliesFit cmdTake := by
  intro s
  unfold cmdTake
  split
  · exact length_replyOnly _
  · split
    · exact length_replyOnly _
    · split
      · exact length_replyOnly _
      · exact Nat.le_trans (length_heldRecord _ _ _ _ _) (by decide)

theorem repliesFit_peek (ctx : Byte) : RepliesFit (cmdPeek ctx) := by
  intro s
  unfold cmdPeek
  split
  · exact length_replyOnly _
  · split
    · exact length_replyOnly _
    · exact Nat.le_trans (length_heldRecord _ _ _ _ _) (by decide)

/-- A disposition's reply fits where the reply of what it does to its entry fits. -/
theorem length_dispose {act : Slot → Entry → State × Reply} (hact : ∀ sl e, (act sl e).2.payload.length ≤ 80)
    (s : State) (ctx : Byte) (ticket : Half) : (s.dispose ctx ticket act).2.payload.length ≤ 80 := by
  unfold State.dispose
  split
  · exact length_replyOnly _
  · split
    · exact length_replyOnly _
    · exact hact _ _

theorem repliesFit_release (ctx : Byte) (ticket : Half) : RepliesFit (cmdRelease ctx ticket) :=
  fun s => length_dispose (fun _ _ => length_replyOnly .ok) s ctx ticket

theorem repliesFit_answer (ctx : Byte) (ticket : Half) (data : Word) : RepliesFit (cmdAnswer ctx ticket data) :=
  fun s => length_dispose (fun _ _ => length_replyOnly .ok) s ctx ticket

theorem repliesFit_refuse (ctx : Byte) (ticket : Half) : RepliesFit (cmdRefuse ctx ticket) :=
  fun s => length_dispose (fun _ _ => length_replyOnly .ok) s ctx ticket

theorem repliesFit_releaseWithData (ctx : Byte) (ticket : Half) (lanes : Byte) (data : Word) :
    RepliesFit (cmdReleaseWithData ctx ticket lanes data) := by
  intro s
  unfold cmdReleaseWithData
  split
  · split
    · exact length_replyOnly _
    · split <;> exact length_replyOnly _
  · exact length_replyOnly _

theorem repliesFit_extend (ctx : Byte) (ticket : Half) (code : Byte) : RepliesFit (cmdExtend ctx ticket code) := by
  intro s
  unfold cmdExtend
  split
  · split <;> exact length_replyOnly _
  · exact length_replyOnly _

theorem repliesFit_setList (list : Byte) (first length : Half) (control : Byte) :
    RepliesFit (cmdSetList list first length control) := by
  intro s
  unfold cmdSetList
  split
  · split <;> exact length_replyOnly _
  · split <;> exact length_replyOnly _
  · exact length_replyOnly _

theorem repliesFit_loadCells (start : Half) (words : List Word) : RepliesFit (cmdLoadCells start words) := by
  intro s
  unfold cmdLoadCells
  split
  · exact length_replyOnly _
  · split <;> exact length_replyOnly _

theorem repliesFit_armList (list : Byte) : RepliesFit (cmdArmList list) := by
  intro s
  unfold cmdArmList
  split
  · exact length_replyOnly _
  all_goals
    dsimp only
    split
    · exact length_replyOnly _
    · split <;> exact length_replyOnly _

theorem repliesFit_disarmList (list : Byte) : RepliesFit (cmdDisarmList list) := by
  intro s
  unfold cmdDisarmList
  split <;> exact length_replyOnly _

theorem repliesFit_readList (list : Byte) : RepliesFit (cmdReadList list) := by
  intro s
  unfold cmdReadList
  split
  · exact length_replyOnly _
  all_goals exact Nat.le_of_ble_eq_true rfl

/-- At most eight records of eight bytes each leave a capture list at once (R132). -/
theorem repliesFit_drainCapture (list n : Byte) : RepliesFit (cmdDrainCapture list n) := by
  intro s
  unfold cmdDrainCapture
  split
  · split
    · exact length_replyOnly _
    · next l _ hn =>
      have hmost : min n.toNat s.captureLists[l].count ≤ 8 := by omega
      simp only [replyOk, List.length_cons, List.length_flatMap, length_recordBytes, List.map_const', List.length_range,
        List.sum_replicate_nat]
      omega
  · exact length_replyOnly _

theorem repliesFit_readAttention (cause : Byte) : RepliesFit (cmdReadAttention cause) := by
  intro s
  unfold cmdReadAttention
  split
  · exact length_replyOnly _
  · next v hv =>
    have hdetail := length_detail_of_mem_views (List.mem_of_getElem? hv)
    simp only [replyOk, causeSetBytes, List.length_append, List.length_cons, List.length_nil, length_bytesOfHalf]
    omega

theorem repliesFit_clearAttention (causes : Half) : RepliesFit (cmdClearAttention causes) := by
  intro s
  unfold cmdClearAttention
  split
  · exact length_replyOnly _
  · exact Nat.le_trans (Nat.le_of_eq (length_clearedBytes _ _)) (by decide)

theorem repliesFit_setAttentionEnable (causes : Half) : RepliesFit (cmdSetAttentionEnable causes) := by
  intro s
  unfold cmdSetAttentionEnable
  split
  · exact length_replyOnly _
  · exact Nat.le_of_ble_eq_true rfl

theorem repliesFit_gate (code : Byte) : RepliesFit (cmdGate code) := by
  intro s
  unfold cmdGate
  split <;> exact length_replyOnly _

/-! ### The link's records along the shared operations -/

section
variable {s t : State}

/-- The invariant depends on the link and the gate alone. -/
theorem State.LinkSound.of_eq (h : s.LinkSound) (hlink : t.link = s.link) (hgate : t.gate = s.gate) : t.LinkSound := by
  simpa only [State.LinkSound, hlink, hgate] using h

theorem State.LinkSound.of_idle (h : s.link = .idle) : s.LinkSound := by simp only [State.LinkSound, h]

theorem State.LinkSound.of_discarding {since : Nat} (h : s.link = .discarding since) : s.LinkSound := by
  simp only [State.LinkSound, h]

/-- A response is a frame, unread (R156, R176). -/
theorem State.LinkSound.answerWith {length : Nat} {r : Reply} (hlength : length ≤ 80) (hr : r.payload.length ≤ 80) :
    (s.answerWith length r).LinkSound := by
  simp only [State.LinkSound, State.answerWith_link, length_responseFrame, bytesSum_responseFrame, and_true]
  omega

theorem State.LinkSound.execute {length : Nat} {cmd : State → State × Reply} (hlength : length ≤ 80)
    (hcmd : RepliesFit cmd) : (s.execute length cmd).LinkSound := .answerWith hlength (hcmd s)

theorem State.LinkSound.openEpisode (h : s.LinkSound) : s.openEpisode.LinkSound := h.of_eq (by simp) (by simp)

/-- QUIESCE, the one command EXECUTING, is of length 0 (R167). -/
theorem State.LinkSound.length_of_executing {length started : Nat} (h : s.LinkSound)
    (hlink : s.link = .executing length started) : length = 0 := by
  simp only [State.LinkSound, hlink] at h
  exact h.1

theorem State.LinkSound.quiesceTest (h : s.LinkSound) : s.quiesceTest.LinkSound := by
  unfold State.quiesceTest
  split
  · next length _ hlink =>
    split
    · exact h
    · exact .answerWith (by rw [h.length_of_executing hlink]; decide) (Nat.le_of_ble_eq_true rfl)
  all_goals exact h

theorem State.LinkSound.settle (h : s.LinkSound) : s.settle.LinkSound := h.quiesceTest.openEpisode

theorem State.LinkSound.quiesceTimeout (h : s.LinkSound) : s.quiesceTimeout.LinkSound := by
  unfold State.quiesceTimeout
  split
  · next length _ hlink => exact .answerWith (by rw [h.length_of_executing hlink]; decide) (length_replyOnly _)
  all_goals exact h

theorem State.LinkSound.gapExpiry (h : s.LinkSound) : s.gapExpiry.LinkSound := by
  unfold State.gapExpiry
  split
  · exact .of_idle rfl
  · exact .of_idle rfl
  all_goals exact h

theorem State.LinkSound.expire (h : s.LinkSound) (sl : Slot) : (s.expire sl).LinkSound := by
  unfold State.expire
  split
  · exact h
  · split
    · exact h
    · exact State.LinkSound.settle (h.of_eq (by simp) (by simp))

theorem State.LinkSound.countHitFor (h : s.LinkSound) (r : Request) : (s.countHitFor r).LinkSound := by
  unfold State.countHitFor
  split <;> exact h

theorem State.LinkSound.accept (h : s.LinkSound) (i : TransitIndex) (r : Request) : (s.accept i r).LinkSound := by
  unfold State.accept
  split
  · exact h
  · split
    · exact h.countHitFor r
    · exact (h.countHitFor r).of_eq (by simp [State.acceptDirect]) (by simp [State.acceptDirect])

theorem State.LinkSound.acceptHead (h : s.LinkSound) : s.acceptHead.LinkSound := by
  unfold State.acceptHead
  split
  · exact (h.accept _ _).settle
  · exact h

theorem State.LinkSound.respond (h : s.LinkSound) (i : TransitIndex) (e : Entry) (reply : MemReply) :
    (s.respond i e reply).LinkSound := by
  cases reply <;> exact h

/-! ### The link's records along the transfers -/

/-- QUIESCE closes the gate before it executes (R167). -/
theorem State.LinkSound.startQuiesce (s : State) : s.startQuiesce.LinkSound := by
  unfold State.startQuiesce
  refine State.LinkSound.openEpisode ?_
  split
  · exact ⟨rfl, rfl⟩
  · exact .answerWith (by decide) (Nat.le_of_ble_eq_true rfl)

/-- Every framed command, executed: its response, or QUIESCE under way (R161). -/
theorem State.LinkSound.run (h : s.LinkSound) {length : Nat} (hlength : length ≤ 80) (c : Instr) :
    (s.run length c).LinkSound := by
  cases c with
  | identify => exact .execute hlength fun _ => Nat.le_of_ble_eq_true rfl
  | survey => exact .execute hlength repliesFit_survey
  | writeWindow w => exact .execute hlength (repliesFit_writeWindow w)
  | readWindow index flag => exact .execute hlength (repliesFit_readWindow index flag)
  | setArbitration o n f u y => exact .execute hlength (repliesFit_setArbitration o n f u y)
  | readArbitration => exact .execute hlength repliesFit_readArbitration
  | take => exact .execute hlength repliesFit_take
  | peek ctx => exact .execute hlength (repliesFit_peek ctx)
  | release ctx ticket => exact .execute hlength (repliesFit_release ctx ticket)
  | releaseWithData ctx ticket lanes data => exact .execute hlength (repliesFit_releaseWithData ctx ticket lanes data)
  | answer ctx ticket data => exact .execute hlength (repliesFit_answer ctx ticket data)
  | refuse ctx ticket => exact .execute hlength (repliesFit_refuse ctx ticket)
  | extend ctx ticket code => exact .execute hlength (repliesFit_extend ctx ticket code)
  | setList list first len control => exact .execute hlength (repliesFit_setList list first len control)
  | loadCells start words => exact .execute hlength (repliesFit_loadCells start words)
  | armList list => exact .execute hlength (repliesFit_armList list)
  | disarmList list => exact .execute hlength (repliesFit_disarmList list)
  | readList list => exact .execute hlength (repliesFit_readList list)
  | drainCapture list n => exact .execute hlength (repliesFit_drainCapture list n)
  | readAttention cause => exact .execute hlength (repliesFit_readAttention cause)
  | clearAttention causes => exact .execute hlength (repliesFit_clearAttention causes)
  | setAttentionEnable causes => exact .execute hlength (repliesFit_setAttentionEnable causes)
  | gate code => exact .execute hlength (repliesFit_gate code)
  | quiesce => exact .startQuiesce s
  | softReset => exact .execute hlength fun _ => length_replyOnly .ok
  | _ => exact h

theorem State.LinkSound.examine (h : s.LinkSound) (op len : Byte) {payload : List Byte} (hpayload : payload.length ≤ 80)
    (check : Byte) : (s.examine op len payload check).LinkSound := by
  unfold State.examine
  split
  · exact .answerWith hpayload (length_replyOnly _)
  · split
    · exact .answerWith hpayload (length_replyOnly _)
    · exact .answerWith hpayload (length_replyOnly _)
    · exact h.run hpayload _

theorem State.LinkSound.received_header (s : State) {op len : Byte} {payload : List Byte} (hlen : len.toNat ≤ 80)
    (hpayload : payload.length ≤ len.toNat) : (s.received (op :: len :: payload)).LinkSound := by
  simp only [State.LinkSound, State.received, List.length_cons, List.getD_cons_succ, List.getD_cons_zero]
  omega

/-- A byte that follows the bytes of a partial frame is its length byte, a byte of its payload or its check byte (R156,
R157). -/
theorem State.LinkSound.receive {bytes : List Byte} {since : Nat} (h : s.LinkSound)
    (hlink : s.link = .receiving bytes since) (b : Byte) : (s.receive (bytes ++ [b])).LinkSound := by
  simp only [State.LinkSound, hlink] at h
  obtain ⟨hsome, -, hpartial⟩ := h
  match bytes with
  | [] => cases hsome
  | [op] =>
    by_cases hlen : 80 < b.toNat
    · exact State.receive_overlong hlen [] ▸ .of_discarding rfl
    · have hmax := Nat.not_lt.1 hlen
      exact State.receive_partial (rest := []) hmax (Nat.zero_le _) ▸ .received_header s hmax (Nat.zero_le _)
  | op :: len :: payload =>
    obtain ⟨hmax, hroom⟩ : len.toNat ≤ 80 ∧ payload.length + 2 < len.toNat + 3 := hpartial (Nat.le_add_left 2 _)
    rcases Nat.lt_or_eq_of_le (show payload.length ≤ len.toNat by omega) with hmore | hlast
    · have hnext : (payload ++ [b]).length ≤ len.toNat := by rw [List.length_append]; exact hmore
      exact State.receive_partial hmax hnext ▸ .received_header s hmax hnext
    · exact State.receive_complete hlast hmax b ▸ State.LinkSound.examine (.of_idle rfl) op len (hlast ▸ hmax) b

theorem State.LinkSound.writeByte (h : s.LinkSound) (b : Byte) : (s.writeByte b).LinkSound := by
  unfold State.writeByte
  split
  · exact h
  · split
    · exact ⟨Nat.le_refl 1, Nat.le_of_ble_eq_true rfl, fun htwo => absurd htwo (by simp)⟩
    · next hlink => exact h.receive hlink b
    · exact .of_discarding rfl
    all_goals exact h

theorem State.LinkSound.writeBytes (h : s.LinkSound) (bs : List Byte) : (s.writeBytes bs).LinkSound := by
  induction bs generalizing s with
  | nil => exact h
  | cons b bs ih => exact ih (h.writeByte b)

/-- A read takes the next byte of the response, or its last (R162). -/
theorem State.LinkSound.readByte (h : s.LinkSound) : s.readByte.LinkSound := by
  unfold State.readByte
  split
  · exact h
  · split
    · next length frame taken hlink =>
      simp only [State.LinkSound, hlink] at h
      obtain ⟨hlength, hfew, hmany, -, hsum⟩ := h
      by_cases hlast : frame.length ≤ taken + 1
      · exact .of_idle (if_pos hlast)
      · simp only [State.LinkSound, if_neg hlast]
        exact ⟨hlength, hfew, hmany, Nat.not_le.1 hlast, hsum⟩
    all_goals exact h.of_eq rfl rfl

/-! ### The link's records along a step -/

/-- The row of a framed command, where it has an outcome, is its bytes, whether its run of words is sound or not. -/
theorem eq_writeBytes_of_exec {c : Instr} (hframed : commandPayload c ≠ none) (h : exec c s = .next t) :
    t = s.writeBytes (commandFrame c) := by
  by_cases hw : c.wf = true
  · rw [commandEqualsItsFrame c s hw hframed] at h
    cases h; rfl
  · cases c with
    | loadCells start words =>
      have hnot : ¬ (1 ≤ words.length ∧ words.length ≤ 12) := by simpa [Instr.wf, loadRunOk] using hw
      simp only [exec, execLoadCells, if_neg hnot] at h
      split at h
      · cases h
      · rw [sendFrame_eq_writeBytes fun _ => rfl] at h
        cases h; rfl
    | _ => exact absurd rfl hw

theorem State.LinkSound.exec (h : s.LinkSound) {c : Instr} (hstep : exec c s = .next t) : t.LinkSound := by
  cases c with
  | headRequestPresented r =>
    simp only [Machine.exec, execHeadRequestPresented] at hstep
    split at hstep
    · cases hstep; exact h
    · cases hstep
      split
      · exact State.LinkSound.openEpisode h
      · exact h
  | acceptance => cases hstep; exact h.acceptHead
  | issue =>
    simp only [Machine.exec, execIssue] at hstep
    split at hstep
    · cases hstep; exact State.LinkSound.settle h
    · cases hstep; exact h
  | memoryResponse i reply =>
    simp only [Machine.exec, execMemoryResponse] at hstep
    split at hstep
    · cases hstep; exact h
    · split at hstep
      · cases hstep; exact (h.respond i _ reply).settle
      · cases hstep; exact State.LinkSound.settle h
      all_goals cases hstep; exact h
  | hostTake =>
    simp only [Machine.exec, execHostTake] at hstep
    split at hstep
    · cases hstep; exact State.LinkSound.settle h
    · cases hstep; exact h
  | hostReset =>
    cases hstep
    split
    · exact h
    · split
      · exact h
      · exact State.LinkSound.settle (h.of_eq rfl rfl)
  | hresetNegation => cases hstep; exact h
  | powerOnReset => cases hstep; exact .of_idle rfl
  | presetNegation => cases hstep; split <;> exact h
  | deadlineExpiry i =>
    simp only [Machine.exec, execDeadlineExpiry] at hstep
    split at hstep
    · cases hstep; exact h
    · cases hstep
      split
      · exact h.expire _
      · exact h
  | gapTimerExpiry =>
    cases hstep
    split
    · exact h.gapExpiry
    · exact h
  | quiesceCompletion => cases hstep; exact h.quiesceTest
  | quiesceTimerExpiry =>
    cases hstep
    split
    · exact h.quiesceTimeout
    · exact h
  | frameWrite b => cases hstep; exact h.writeByte b
  | frameRead => cases hstep; exact h.readByte
  | abort control =>
    cases hstep
    split
    · exact h
    · split
      · exact .of_idle rfl
      · exact h
  | _ => exact eq_writeBytes_of_exec (by simp [commandPayload]) hstep ▸ h.writeBytes _

theorem State.LinkSound.idle (h : s.LinkSound) : s.idle.LinkSound := by
  unfold State.idle
  split
  · exact h
  · split
    · exact h.acceptHead
    · split
      · exact h.expire _
      · split
        · exact h.gapExpiry
        · split
          · exact h.quiesceTimeout
          · exact h

end

/-- Settles O57: a framed command is the bytes of its frame, and every other event leaves link and gate as they are,
ends the state of the link, or is one transfer. -/
theorem stepKeepsTheLinkSound : Obligations.StepKeepsTheLinkSound := by
  intro s t h hstep
  unfold step at hstep
  split at hstep
  · cases hstep; exact h.idle
  · next c rest _ => exact State.LinkSound.exec (s := { s with pending := rest }) h hstep

end Sys2Proof.Machine

namespace Sys2Proof.Machine

-- One proof at a time: proofs in parallel wait for one another on threads of their own, each with its stack.
set_option Elab.async false

/-! ### A frame write by the link state (R157, R158, R163) -/

section
variable {s : State}

theorem State.writeByte_receiving {bytes : List Byte} {since : Nat} (hp : s.preset = false)
    (hlink : s.link = .receiving bytes since) (b : Byte) : s.writeByte b = s.receive (bytes ++ [b]) := by
  simp only [State.writeByte, hp, hlink]
  rfl

theorem State.writeByte_discarding {since : Nat} (hp : s.preset = false) (hlink : s.link = .discarding since)
    (b : Byte) : s.writeByte b = { s with link := .discarding s.now } := by
  simp only [State.writeByte, hp, hlink]
  rfl

/-- The link executes or answers a command whose frame has length L (R155). -/
def State.BusyWith (s : State) (L : Nat) : Prop :=
  (∃ started, s.link = .executing L started) ∨ ∃ frame taken, s.link = .responding L frame taken

theorem State.writeByte_busy {L : Nat} (hp : s.preset = false) (h : s.BusyWith L) (b : Byte) :
    s.writeByte b = s.postLinkFault { kind := .writeWhileBusy, bytes := L + 3 } := by
  rcases h with ⟨started, hlink⟩ | ⟨frame, taken, hlink⟩
  all_goals
    simp only [State.writeByte, hp, hlink]
    rfl

/-- LINK_FAULT holds this many occurrences, the first of them with this detail (R140). -/
def State.withLinkFault (s : State) (n : Nat) (d : LinkFaultDetail) : State :=
  { s with causes := { s.causes with linkFault := some { occurrences := n, detail := d } } }

theorem State.postLinkFault_of_clear (h : s.causes.linkFault = none) (d : LinkFaultDetail) :
    s.postLinkFault d = s.withLinkFault 1 d := by
  rw [State.postLinkFault, h]; rfl

theorem State.postLinkFault_withLinkFault {n : Nat} (hn : n ≤ 255) (d f : LinkFaultDetail) :
    (s.withLinkFault n d).postLinkFault f = s.withLinkFault (min (n + 1) 255) d := by
  have hpost : post (some { occurrences := n, detail := d }) f =
      some { occurrences := min (n + 1) 255, detail := d } := by
    rcases Nat.lt_or_eq_of_le hn with hlt | rfl
    · rw [post_of_lt f hlt, Nat.min_eq_left hlt]
    · exact post_of_saturated f (Nat.le_refl _)
  calc (s.withLinkFault n d).postLinkFault f
    _ = { s with causes := { s.causes with
          linkFault := post (some { occurrences := n, detail := d }) f } } := rfl
    _ = s.withLinkFault (min (n + 1) 255) d := by rw [hpost]; rfl

/-- Writes to a busy link whose LINK_FAULT is set: each counts, up to 255 (R141, R163). -/
theorem State.writeBytes_busy {L : Nat} (hp : s.preset = false) (h : s.BusyWith L) (d : LinkFaultDetail) :
    ∀ (bs : List Byte) {n : Nat}, n ≤ 255 →
      (s.withLinkFault n d).writeBytes bs = s.withLinkFault (min (n + bs.length) 255) d
  | [], n, hn => by
    rw [List.length_nil, Nat.add_zero, Nat.min_eq_left hn]
    rfl
  | b :: bs, n, hn => by
    have hcount : min (min (n + 1) 255 + bs.length) 255 = min (n + (b :: bs).length) 255 := by
      rw [List.length_cons]; omega
    calc (s.withLinkFault n d).writeBytes (b :: bs)
      _ = ((s.withLinkFault n d).writeByte b).writeBytes bs := rfl
      _ = (s.withLinkFault (min (n + 1) 255) d).writeBytes bs := by
        rw [State.writeByte_busy (s := s.withLinkFault n d) hp h, State.postLinkFault_withLinkFault hn]
      _ = s.withLinkFault (min (n + (b :: bs).length) 255) d := by
        rw [State.writeBytes_busy hp h d bs (Nat.min_le_right _ _), hcount]

end

/-- Settles O23: the bytes received so far are a header or a payload in progress, which the byte written goes on
with. -/
theorem frameWriteByLinkState : Obligations.FrameWriteByLinkState := by
  refine fun s b => ⟨fun hp => ?preset, fun hp => ⟨fun hlink => ?idle, fun op since hlink => ⟨fun hlen => ?overlong,
    fun hlen => ?length⟩, fun op len payload since hlink hlen hroom => ?payload, fun since hlink => ?discarding⟩⟩
  case preset => exact congrArg Host.Outcome.next (State.writeBytes_preset hp [b])
  case idle => exact congrArg Host.Outcome.next (State.writeByte_idle ⟨hp, hlink⟩ b)
  case overlong =>
    refine congrArg Host.Outcome.next ((State.writeByte_receiving hp hlink b).trans ?_)
    exact State.receive_overlong hlen []
  case length =>
    refine congrArg Host.Outcome.next ((State.writeByte_receiving hp hlink b).trans ?_)
    exact State.receive_partial (rest := []) hlen (Nat.zero_le _)
  case payload =>
    refine congrArg Host.Outcome.next ((State.writeByte_receiving hp hlink b).trans ?_)
    exact State.receive_partial (rest := payload ++ [b]) hlen (by rw [List.length_append]; exact hroom)
  case discarding => exact congrArg Host.Outcome.next (State.writeByte_discarding hp hlink b)

/-- Settles O24: the first write posts the detail, and `State.writeBytes_busy` counts the rest. -/
theorem writeWhileBusy : Obligations.WriteWhileBusy := by
  intro s L hp hbusy
  refine ⟨fun b => congrArg Host.Outcome.next (State.writeByte_busy hp hbusy b), fun bs hnone hsome => ?_⟩
  obtain ⟨b, bs, rfl⟩ := List.exists_cons_of_ne_nil hsome
  calc s.writeBytes (b :: bs)
    _ = (s.writeByte b).writeBytes bs := rfl
    _ = (s.withLinkFault 1 { kind := .writeWhileBusy, bytes := L + 3 }).writeBytes bs := by
      rw [State.writeByte_busy hp hbusy, State.postLinkFault_of_clear hnone]
    _ = s.withLinkFault (min (b :: bs).length 255) { kind := .writeWhileBusy, bytes := L + 3 } := by
      rw [State.writeBytes_busy hp hbusy _ bs (by decide), List.length_cons, Nat.add_comm 1]

/-! ### The check byte of a frame (R160) -/

/-- The check byte of a frame has it examined. -/
theorem State.writeByte_check {s : State} {op len : Byte} {payload : List Byte} {since : Nat} (hp : s.preset = false)
    (hlink : s.link = .receiving (op :: len :: payload) since) (hmax : len.toNat ≤ 80)
    (hlen : payload.length = len.toNat) (check : Byte) :
    s.writeByte check = ({ s with link := .idle }).examine op len payload check :=
  (State.writeByte_receiving hp hlink check).trans (State.receive_complete hlen hmax check)

/-- Settles O25: the check byte is examined; a frame that passes is its command on a link that takes it. -/
theorem failedExamination : Obligations.FailedExamination := by
  intro s op len check payload since hp hlink hmax hlen sum
  have hexec : exec (.frameWrite check) s = .next (({ s with link := .idle }).examine op len payload check) :=
    congrArg Host.Outcome.next (State.writeByte_check hp hlink hmax hlen check)
  rw [hexec]
  refine ⟨fun hsum => ?sum, fun hsum hread => ?unknownOp, fun hsum hread => ?badLength, fun c hsum hread => ?command⟩
  case sum => rw [State.examine_of_sum hsum]; rfl
  case unknownOp => rw [State.examine_of_unknownOp hsum hread]; rfl
  case badLength => rw [State.examine_of_badLength hsum hread]; rfl
  case command =>
    obtain ⟨-, hpayload, hw⟩ := commandPayload_of_readCommand hread
    rw [State.examine_of_command hsum hread, exec_of_commandPayload hw hpayload,
      sendFrame_ready (s := { s with link := .idle }) ⟨hp, rfl⟩]

/-! ### Reads and the abort (R154, R162, R164) -/

section
variable {s : State}

theorem State.readByte_responding {L taken : Nat} {frame : List Byte} (hp : s.preset = false)
    (hlink : s.link = .responding L frame taken) (htaken : taken < frame.length) :
    s.readByte = { s with
      sdOut := frame[taken]?
      link := if taken + 1 = frame.length then .idle else .responding L frame (taken + 1) } := by
  have hbyte : some (frame.getD taken 0) = frame[taken]? := by
    rw [List.getD_eq_getElem?_getD, List.getElem?_eq_getElem htaken, Option.getD_some]
  have hlast : frame.length ≤ taken + 1 ↔ taken + 1 = frame.length := by omega
  simp only [State.readByte, hp, hlink, hbyte, hlast]
  rfl

theorem State.readByte_elsewhere (hp : s.preset = false) (h : ∀ L frame taken, s.link ≠ .responding L frame taken) :
    s.readByte = { s with sdOut := some 0 } := by
  unfold State.readByte
  rw [if_neg (Bool.eq_false_iff.1 hp)]
  split
  · next hlink => exact absurd hlink (h _ _ _)
  all_goals rfl

theorem State.readByte_preset (hp : s.preset = true) : s.readByte = { s with sdOut := none } := if_pos hp

end

/-- Reading the last bytes of a response, one or more, gives each once and in order (R162). -/
theorem State.readOut_responding {L : Nat} {frame : List Byte} : ∀ (n : Nat) {s : State} {taken : Nat},
    s.preset = false → s.link = .responding L frame taken → taken + (n + 1) = frame.length →
    State.readOut (n + 1) s = ((frame.drop taken).map some, { s with link := .idle, sdOut := frame.getLast? })
  | 0, s, taken, hp, hlink, hn => by
    have htaken : taken < frame.length := by omega
    have hlast : frame.getLast? = frame[taken]? := by
      rw [List.getLast?_eq_getElem?, ← hn]; rfl
    have hbyte : s.readByte = { s with link := .idle, sdOut := frame.getLast? } := by
      rw [State.readByte_responding hp hlink htaken, if_pos hn, hlast]
    have hrest : frame.drop taken = [frame[taken]] := by
      rw [List.drop_eq_getElem_cons htaken, List.drop_eq_nil_of_le (Nat.le_of_eq hn.symm)]
    rw [State.readOut, State.readOut, hbyte, hrest, hlast, List.getElem?_eq_getElem htaken]
    rfl
  | n + 1, s, taken, hp, hlink, hn => by
    have htaken : taken < frame.length := by omega
    have hbyte : s.readByte = { s with link := .responding L frame (taken + 1), sdOut := some frame[taken] } := by
      rw [State.readByte_responding hp hlink htaken, if_neg (by omega), List.getElem?_eq_getElem htaken]
    have hrest := State.readOut_responding n ((congrArg State.preset hbyte).trans hp)
      (congrArg State.link hbyte) (by omega)
    rw [State.readOut, hrest, hbyte, List.drop_eq_getElem_cons htaken]
    rfl

/-- Settles O29: a read by the link's state, the reads of a whole response by `State.readOut_responding`. -/
theorem frameReadAndAbort : Obligations.FrameReadAndAbort := by
  refine ⟨fun s L taken frame hp hlink htaken => ?next, fun s L frame hp hsome hlink => ?whole,
    fun s hp hlink => ?elsewhere, fun s hp => ⟨?preset, State.statusRead_preset hp⟩,
    fun s hp => State.statusRead_working hp, fun s hp => ?abort, fun s control h => ?ignored⟩
  case next => exact congrArg Host.Outcome.next (State.readByte_responding hp hlink htaken)
  case whole =>
    obtain ⟨n, hn⟩ := Nat.exists_eq_add_one_of_ne_zero (mt List.length_eq_zero_iff.1 hsome)
    rw [hn, State.readOut_responding n hp hlink (by omega)]
    exact ⟨rfl, rfl⟩
  case elsewhere => exact congrArg Host.Outcome.next (State.readByte_elsewhere hp hlink)
  case preset => exact congrArg Host.Outcome.next (State.readByte_preset hp)
  case abort => simp only [exec, execAbort, hp, Bool.false_eq_true, if_false, if_true]
  case ignored =>
    refine congrArg Host.Outcome.next ?_
    split
    · rfl
    · next hp => exact if_neg (h.resolve_right hp)

end Sys2Proof.Machine

namespace Sys2Proof.Machine

-- One proof at a time: proofs in parallel wait for one another on threads of their own, each with its stack.
set_option Elab.async false

/-! ### The transit table counted by index (R2, R173) -/

section
variable (s : State)

theorem State.entries_toList : s.entries.toList = (List.finRange 32).map s.entry := by
  apply List.ext_getElem
  · simp
  · intro k _ _
    simp [State.entry]

theorem State.countRoute_eq_countAt (p : Route → Bool) : s.countRoute p = s.countAt fun r => r.any p := by
  unfold State.countRoute State.countAt
  rw [State.entries_toList, List.countP_map]
  refine List.countP_congr fun i _ => ?_
  unfold State.routeAt
  rw [Function.comp_apply]
  cases s.entry i <;> rfl

theorem State.countRoute_decide (x : Route) :
    s.countRoute (fun r => decide (r = x)) = s.countAt fun r => decide (r = some x) := by
  rw [State.countRoute_eq_countAt]
  refine congrArg s.countAt (funext fun r => ?_)
  cases r <;> simp

theorem State.countFree_eq : s.countFree = s.countAt fun r => decide (r = none) := by
  unfold State.countFree State.countAt
  rw [State.entries_toList, List.countP_map]
  refine List.countP_congr fun i _ => ?_
  unfold State.routeAt
  rw [Function.comp_apply]
  cases s.entry i <;> simp

/-- Each of these entries is of one route state, so the counts add up to their number. -/
theorem sum_countP_route {α : Type} (route : α → Option Route) (l : List α) :
    l.countP (fun i => decide (route i = none)) + l.countP (fun i => decide (route i = some .issueWait)) +
      l.countP (fun i => decide (route i = some .inMemory)) + l.countP (fun i => decide (route i = some .held)) +
      l.countP (fun i => decide (route i = some .blocked)) + l.countP (fun i => (route i).any Route.isDone) +
      l.countP (fun i => decide (route i = some .orphan)) = l.length := by
  induction l with
  | nil => rfl
  | cons i l ih =>
    simp only [List.countP_cons, List.length_cons]
    cases route i with
    | none =>
      simp only [reduceCtorEq, decide_true, decide_false, Option.any_none, if_true, Bool.false_eq_true, if_false]
      omega
    | some r =>
      cases r
      all_goals
        simp only [reduceCtorEq, Option.some.injEq, decide_true, decide_false, Option.any_some, Route.isDone, if_true,
          Bool.false_eq_true, if_false]
        omega

end

/-- Settles O32: the counts of `State.routeCounts` by index, over the 32 indices. -/
theorem surveyCounts : Obligations.SurveyCounts := by
  intro s hready
  refine ⟨?reply, ?sum⟩
  case reply =>
    rw [exec_of_cmd (cmd := cmdSurvey) hready rfl fun _ => rfl, State.routeCounts, State.countFree_eq]
    simp only [State.countRoute_decide, State.countRoute_eq_countAt s Route.isDone]
    rfl
  case sum => exact (sum_countP_route s.routeAt (List.finRange 32)).trans List.length_finRange

/-- The identity of the part, byte by byte (R172, R182). -/
theorem cmdIdentify_eq (s : State) :
    cmdIdentify s = (s, replyOk [0x61, 0x40, 0x01, 0x18, 0x10, 0x08, 0x20, 0x04, 0x06, 0x02, 0x00, 0x08]) := by
  refine Prod.ext rfl (congrArg replyOk ?_)
  decide

/-- Settles O31: the identity of the part between its status, its length and its check byte. -/
theorem identifyFrame : Obligations.IdentifyFrame := by
  intro s hready
  have hframe : responseFrame (replyOk [0x61, 0x40, 0x01, 0x18, 0x10, 0x08, 0x20, 0x04, 0x06, 0x02, 0x00, 0x08]) =
      [0x00, 0x0C, 0x61, 0x40, 0x01, 0x18, 0x10, 0x08, 0x20, 0x04, 0x06, 0x02, 0x00, 0x08, 0xEE] := by
    decide
  rw [exec_of_cmd hready (cmdIdentify_eq s) fun _ => rfl, State.answerWith_eq, hframe]

/-! ### The link's timers (R158, R159, R167, R168) -/

section
variable {s : State}

theorem exec_gapTimerExpiry :
    exec .gapTimerExpiry s = .next (if reached s.gapDue s.now 0 then s.gapExpiry else s) := rfl

theorem exec_quiesceTimerExpiry :
    exec .quiesceTimerExpiry s = .next (if reached s.quiesceDue s.now 0 then s.quiesceTimeout else s) := rfl

theorem reached_zero_iff {due : Option Nat} {now : Nat} : reached due now 0 = true ↔ ∃ t ∈ due, t ≤ now := by
  cases due <;> simp [reached]

theorem State.gapDue_of_receiving {bytes : List Byte} {since : Nat} (h : s.link = .receiving bytes since) :
    s.gapDue = some (since + 1000) := by
  rw [State.gapDue, h]; rfl

theorem State.gapDue_of_discarding {since : Nat} (h : s.link = .discarding since) : s.gapDue = some (since + 1000) := by
  rw [State.gapDue, h]; rfl

/-- The gap timer runs only while a frame is received or discarded (R158, R159). -/
theorem State.gapDue_cases {t : Nat} (h : s.gapDue = some t) :
    (∃ bytes since, s.link = .receiving bytes since ∧ t = since + 1000) ∨
      ∃ since, s.link = .discarding since ∧ t = since + 1000 := by
  unfold State.gapDue at h
  split at h
  · next bytes since hlink => cases h; exact .inl ⟨bytes, since, hlink, rfl⟩
  · next since hlink => cases h; exact .inr ⟨since, hlink, rfl⟩
  all_goals cases h

theorem State.quiesceDue_of_executing {L started : Nat} (h : s.link = .executing L started) :
    s.quiesceDue = some (started + 10000) := by
  rw [State.quiesceDue, h]; rfl

/-- The quiesce timer runs only while QUIESCE executes (R167). -/
theorem State.quiesceDue_cases {t : Nat} (h : s.quiesceDue = some t) :
    ∃ L started, s.link = .executing L started ∧ t = started + 10000 := by
  unfold State.quiesceDue at h
  split at h
  · next L started hlink => cases h; exact ⟨L, started, hlink, rfl⟩
  all_goals cases h

end

/-- Settles O22: each timer runs in its link states alone, and what its expiry does is the case of its state. -/
theorem linkTimersExpire : Obligations.LinkTimersExpire := by
  refine ⟨fun s bytes since hlink hdue => ?gapReceiving, fun s since hlink hdue => ?gapDiscarding,
    fun s hreceiving hdiscarding => ?gapNotDue, fun s L started hlink hdue => ?quiesce,
    fun s hexecuting => ?quiesceNotDue⟩
  case gapReceiving =>
    have hreached := reached_zero_iff.2 ⟨_, State.gapDue_of_receiving hlink, hdue⟩
    rw [exec_gapTimerExpiry, if_pos hreached, State.gapExpiry, hlink]
    rfl
  case gapDiscarding =>
    have hreached := reached_zero_iff.2 ⟨_, State.gapDue_of_discarding hlink, hdue⟩
    rw [exec_gapTimerExpiry, if_pos hreached, State.gapExpiry, hlink]
  case gapNotDue =>
    refine congrArg Host.Outcome.next (if_neg fun hreached => ?_)
    obtain ⟨t, ht, hdue⟩ := reached_zero_iff.1 hreached
    rcases State.gapDue_cases ht with ⟨bytes, since, hlink, rfl⟩ | ⟨since, hlink, rfl⟩
    · exact absurd hdue (Nat.not_le.2 (hreceiving bytes since hlink))
    · exact absurd hdue (Nat.not_le.2 (hdiscarding since hlink))
  case quiesce =>
    have hreached := reached_zero_iff.2 ⟨_, State.quiesceDue_of_executing hlink, hdue⟩
    have hframe : responseFrame (replyOnly .timeout) = [0x30, 0x00, 0xD0] := by decide
    rw [exec_quiesceTimerExpiry, if_pos hreached, State.quiesceTimeout, hlink]
    dsimp only
    rw [State.answerWith_eq, hframe]
  case quiesceNotDue =>
    refine congrArg Host.Outcome.next (if_neg fun hreached => ?_)
    obtain ⟨t, ht, hdue⟩ := reached_zero_iff.1 hreached
    obtain ⟨L, started, hlink, rfl⟩ := State.quiesceDue_cases ht
    exact absurd hdue (Nat.not_le.2 (hexecuting L started hlink))

/-! ### QUIESCE (R167, R168) -/

section
variable {s : State}

theorem Route.isForwarded_iff {r : Route} : r.isForwarded = true ↔ r = .issueWait ∨ r = .inMemory ∨ r = .orphan := by
  cases r <;> simp [Route.isForwarded]

/-- An entry is forwarded: ISSUE_WAIT, IN_MEMORY or ORPHAN (R167). -/
theorem State.anyForwarded_iff : s.anyForwarded = true ↔
    ∃ i, s.routeAt i = some .issueWait ∨ s.routeAt i = some .inMemory ∨ s.routeAt i = some .orphan := by
  unfold State.anyForwarded State.anyEntry
  rw [State.entries_toList, List.any_map, List.any_eq_true]
  refine exists_congr fun i => ?_
  simp only [List.mem_finRange, true_and, Function.comp_apply, State.routeAt]
  cases s.entry i with
  | none => simp
  | some e => simp [Route.isForwarded_iff]

theorem State.not_anyForwarded_iff : ¬ s.anyForwarded = true ↔
    ∀ i, s.routeAt i ≠ some .issueWait ∧ s.routeAt i ≠ some .inMemory ∧ s.routeAt i ≠ some .orphan := by
  rw [State.anyForwarded_iff]
  simp only [not_exists, not_or, ne_eq]

theorem State.quiesceReply_eq (s : State) : s.quiesceReply = replyOk
    [byteOf (s.countAt fun r => decide (r = some Route.held)),
     byteOf (s.countAt fun r => decide (r = some Route.blocked)), byteOf (s.countAt fun r => r.any Route.isDone)] := by
  unfold State.quiesceReply
  rw [State.countRoute_decide, State.countRoute_decide, State.countRoute_eq_countAt]

theorem exec_quiesce_ready (h : s.LinkReady) : exec .quiesce s = .next s.startQuiesce :=
  sendFrame_ready h .quiesce State.startQuiesce

theorem State.startQuiesce_of_none (h : ¬ s.anyForwarded = true) :
    s.startQuiesce = ({ s with gate := .closed }).openEpisode.answerWith 0 s.quiesceReply := by
  have hclosed : ¬ ({ s with gate := .closed }).anyForwarded = true := h
  simp only [State.startQuiesce, if_neg hclosed, State.openEpisode_answerWith]
  rfl

theorem State.startQuiesce_of_forwarded (h : s.anyForwarded = true) :
    s.startQuiesce = ({ s with gate := .closed, link := .executing 0 s.now }).openEpisode :=
  congrArg State.openEpisode (if_pos h)

end

/-- Settles O51: GATE by its code, QUIESCE by whether an entry is forwarded when its check byte comes. -/
theorem gateAndQuiesce : Obligations.GateAndQuiesce := by
  refine ⟨fun s code hready => ⟨fun hcode => ?opened, fun hcode => ?closed, fun hbad => ?bad⟩,
    fun s hready => ⟨fun hnone => ?completes, fun hsome => ?executes⟩⟩
  case opened => subst hcode; exact exec_of_cmd hready (cmd := cmdGate 0x00) rfl fun _ => rfl
  case closed => subst hcode; exact exec_of_cmd hready (cmd := cmdGate 0x01) rfl fun _ => rfl
  case bad =>
    have hcmd : cmdGate code s = (s, replyOnly .badParam) := by rw [cmdGate, flagOf_eq_none hbad]
    exact exec_of_cmd hready hcmd fun _ => rfl
  case completes =>
    rw [exec_quiesce_ready hready, State.startQuiesce_of_none (State.not_anyForwarded_iff.2 hnone),
      State.quiesceReply_eq]
  case executes => rw [exec_quiesce_ready hready, State.startQuiesce_of_forwarded (State.anyForwarded_iff.2 hsome)]

/-! ### The end of an event (R10, R11, R168) -/

section
variable {s : State}

theorem State.quiesceTest_of_none {L started : Nat} (hlink : s.link = .executing L started)
    (h : ¬ s.anyForwarded = true) : s.quiesceTest = s.answerWith L s.quiesceReply := by
  rw [State.quiesceTest, hlink]
  exact if_neg h

/-- A stall needs a head request (R10). -/
theorem State.exists_head_of_stall (h : s.stallReason ≠ .none) : ∃ r, s.head = some r := by
  refine Option.ne_none_iff_exists'.1 fun hhead => h ?_
  rw [State.stallReason, hhead]

/-- The start of a stall episode (R11). -/
theorem State.openEpisode_of_stall {r : Request} (hhead : s.head = some r) (hep : s.episode = false)
    (h : s.stallReason ≠ .none) : s.openEpisode = { s.postStall r s.stallReason with episode := true } := by
  simp only [State.openEpisode, hhead, hep, Bool.false_eq_true, if_false, if_neg h]

end

/-- Settles O18: QUIESCE's test by whether an entry is forwarded, the H-port's by the stall reason. -/
theorem endOfEventTests : Obligations.EndOfEventTests := by
  refine ⟨fun s L started hlink hnone => ?completes, fun s h => ?not, fun s t h => ?settle, fun s => ⟨fun h => ?none,
    fun hep hstall => ?silent, fun r hhead hep hstall => ?hold, fun r hhead hep hstall => ?block⟩⟩
  case completes =>
    rw [← State.quiesceReply_eq]
    exact congrArg Host.Outcome.next (State.quiesceTest_of_none hlink (State.not_anyForwarded_iff.2 hnone))
  case not =>
    refine congrArg Host.Outcome.next (State.quiesceTest_eq_self s fun hdue => ?_)
    rcases h with hnone | hsome
    · rw [hnone] at hdue; cases hdue
    · exact State.anyForwarded_iff.2 hsome
  case settle => cases h; rfl
  case none =>
    rcases h with hhead | hep | hstall
    · exact State.openEpisode_of_no_head s hhead
    · exact State.openEpisode_eq_self s fun _ => hep
    · exact State.openEpisode_eq_self s fun hne => absurd hstall hne
  case silent =>
    rcases hstall with hstall | hstall
    all_goals
      obtain ⟨r, hhead⟩ := State.exists_head_of_stall (s := s) (by rw [hstall]; decide)
      rw [State.openEpisode_of_stall hhead hep (by rw [hstall]; decide), hstall]
      rfl
  case hold => rw [State.openEpisode_of_stall hhead hep (by rw [hstall]; decide), hstall]; rfl
  case block => rw [State.openEpisode_of_stall hhead hep (by rw [hstall]; decide), hstall]; rfl

end Sys2Proof.Machine

namespace Sys2Proof.Machine

-- One proof at a time: proofs in parallel wait for one another on threads of their own, each with its stack.
set_option Elab.async false

/-! ### The link status byte (R165, R183) -/

section
variable (s : State)

/-- Bits 2..0 of the link status byte. -/
theorem State.linkStatusByte_linkState : s.linkStatusByte.extractLsb' 0 3 = linkStateCode s.link := by
  refine BitVec.eq_of_getLsbD_eq fun i hi => ?_
  simp only [State.linkStatusByte, BitVec.getLsbD_extractLsb', BitVec.getLsbD_append, Nat.zero_add, hi, decide_true,
    Bool.true_and, if_true]

/-- Bits 7..3 of the link status byte, bit 3 first. -/
theorem State.linkStatusByte_flags (n : Nat) :
    s.linkStatusByte.getLsbD (n + 3) =
      [s.notify, s.attn, decide (s.gate = .closed), decide (s.stallReason ≠ .none)].getD n false := by
  simp only [State.linkStatusByte, BitVec.getLsbD_append]
  match n with
  | 0 | 1 | 2 | 3 => simp [bit]
  | n + 4 => simp

end

/-- The gate is the stall reason only while it is closed (R10). -/
theorem State.gate_closed_of_stall {s : State} (h : s.stallReason = .gate) : s.gate = .closed := by
  obtain ⟨r, hhead⟩ := State.exists_head_of_stall (s := s) (by rw [h]; decide)
  refine Decidable.byContradiction fun hopen => ?_
  simp only [State.stallReason, hhead, State.obstacle, if_neg hopen] at h
  repeat' split at h
  all_goals cases h

/-- The timebase, the level of HRESET# and the commands that wait have no part in the status byte after power-on reset. -/
theorem State.linkStatusByte_power_on (now : Nat) (hreset : Bool) (pending : List Instr) :
    ({ State.reset with now := now, hreset := hreset, pending := pending } : State).linkStatusByte = 0x00 := by
  calc
    _ = State.reset.linkStatusByte := rfl
    _ = 0x00 := by decide

/-- Settles O30: the byte field by field, its two values that R183 spells, and R164's abort for the control byte. -/
theorem statusByteLayout : Obligations.StatusByteLayout := by
  obtain ⟨-, -, -, -, -, habort, hignored⟩ := frameReadAndAbort
  refine ⟨fun s => ⟨?linkState, s.linkStatusByte_flags 0, s.linkStatusByte_flags 1, s.linkStatusByte_flags 2,
      s.linkStatusByte_flags 3, s.linkStatusByte_flags 4⟩, fun s t h => ?powerOn,
    fun s L started hlink hstall hnotify hattn => ?quiesce, habort,
    fun s control hcontrol => hignored s control (.inl hcontrol)⟩
  case linkState => rw [State.linkStatusByte_linkState]; cases s.link <;> rfl
  case powerOn =>
    cases h
    exact ⟨_, rfl, State.linkStatusByte_power_on 0 s.hreset s.pending⟩
  case quiesce =>
    rw [State.linkStatusByte, State.gate_closed_of_stall hstall, hlink, hstall, hnotify, hattn, linkStateCode]
    decide

end Sys2Proof.Machine

namespace Sys2Proof.Machine

-- One proof at a time: proofs in parallel wait for one another on threads of their own, each with its stack.
set_option Elab.async false

/-! ### A step by the front of the queue -/

section
variable {s : State}

theorem step_of_pending_cons {c : Instr} {rest : List Instr} (h : s.pending = c :: rest) :
    step s = exec c { s with pending := rest } := by
  rw [step, h]

theorem step_of_pending_nil (h : s.pending = []) : step s = .next s.idle := by
  rw [step, h]

end

/-- Settles O1: the queue of the state that steps is the command and the rest. -/
theorem stepRunsTheFrontCommand : Obligations.StepRunsTheFrontCommand :=
  fun _ _ _ => step_of_pending_cons rfl

/-! ### Timers that may wait no longer (R49, R159, R167) -/

theorem reached_iff {due : Option Nat} {now slack : Nat} :
    reached due now slack = true ↔ ∃ t ∈ due, t + slack ≤ now := by
  cases due <;> simp [reached]

theorem Slot.overdue_iff {sl : Slot} {now : Nat} : sl.overdue now = true ↔ ∃ t ∈ sl.deadline, t + 1 ≤ now :=
  reached_iff (slack := 1)

/-- A timer that may wait for no tick may expire (R49). -/
theorem reached_zero_of_one {due : Option Nat} {now : Nat} (h : reached due now 1 = true) :
    reached due now 0 = true := by
  obtain ⟨t, ht, hlate⟩ := reached_iff.1 h
  exact reached_zero_iff.2 ⟨t, ht, Nat.le_of_succ_le hlate⟩

/-- A timer whose time has not gone by may wait for a tick. -/
theorem not_reached_one {due : Option Nat} {now : Nat} (h : ∀ t ∈ due, now ≤ t) : ¬ reached due now 1 = true :=
  not_reached_iff.2 fun t ht => Nat.not_lt.2 (h t ht)

section
variable {s : State}

/-- The link's two timers run in different link states (R158, R167). -/
theorem State.gapDue_eq_none_of_quiesceDue {t : Nat} (h : s.quiesceDue = some t) : s.gapDue = none := by
  obtain ⟨L, started, hlink, -⟩ := State.quiesceDue_cases h
  rw [State.gapDue, hlink]

/-- Where a deadline may wait no longer, the search of the pool finds the oldest hold's that may not. -/
theorem State.exists_find_overdue (h : ∃ sl ∈ s.pool, ∃ t ∈ sl.deadline, t + 1 ≤ s.now) :
    ∃ before sl after, s.pool = before ++ sl :: after ∧ (∃ t ∈ sl.deadline, t + 1 ≤ s.now) ∧
      (∀ x ∈ before, ∀ t ∈ x.deadline, s.now ≤ t) ∧ (s.pool.find? fun sl => sl.overdue s.now) = some sl := by
  obtain ⟨late, hmem, hlate⟩ := h
  obtain ⟨sl, hfind⟩ : ∃ sl, (s.pool.find? fun sl => sl.overdue s.now) = some sl :=
    Option.isSome_iff_exists.1 (List.find?_isSome.2 ⟨late, hmem, Slot.overdue_iff.2 hlate⟩)
  obtain ⟨hoverdue, before, after, hpool, hbefore⟩ := List.find?_eq_some_iff_append.1 hfind
  refine ⟨before, sl, after, hpool, Slot.overdue_iff.1 hoverdue, fun x hx t ht => ?_, hfind⟩
  have hwaits : ¬ x.overdue s.now = true := by simpa using hbefore x hx
  exact Nat.not_lt.1 (Slot.not_overdue_iff.1 hwaits t ht)

theorem State.find_overdue_eq_none (h : ∀ sl ∈ s.pool, ∀ t ∈ sl.deadline, s.now ≤ t) :
    (s.pool.find? fun sl => sl.overdue s.now) = none :=
  List.find?_eq_none.2 fun sl hsl => Slot.not_overdue_iff.2 fun t ht => Nat.not_lt.2 (h sl hsl t ht)

/-! ### What the part does with no command waiting (log entry 3) -/

theorem State.idle_of_preset (h : s.preset = true) : s.idle = s :=
  if_pos h

theorem State.idle_of_acceptable (hlive : s.preset = false) (hacc : s.acceptable ≠ none) : s.idle = s.acceptHead := by
  rw [State.idle, if_neg (by simp [hlive]), if_pos (Option.isSome_iff_ne_none.2 hacc)]

theorem State.idle_of_overdue (hlive : s.preset = false) (hacc : s.acceptable = none) {sl : Slot}
    (h : (s.pool.find? fun x => x.overdue s.now) = some sl) : s.idle = s.expire sl := by
  rw [State.idle, if_neg (by simp [hlive]), if_neg (by simp [hacc]), h]

/-- With no deadline to take, the link's timers stand between the part and a tick. -/
theorem State.idle_of_timely_pool (hlive : s.preset = false) (hacc : s.acceptable = none)
    (hpool : ∀ sl ∈ s.pool, ∀ t ∈ sl.deadline, s.now ≤ t) :
    s.idle = if reached s.gapDue s.now 1 then s.gapExpiry
      else if reached s.quiesceDue s.now 1 then s.quiesceTimeout else s.tick := by
  rw [State.idle, if_neg (by simp [hlive]), if_neg (by simp [hacc]), State.find_overdue_eq_none hpool]

end

/-- Settles O2: the cases of `State.idle`, each expiry of a link timer with its row's effect. -/
theorem emptyQueueStep : Obligations.EmptyQueueStep := by
  intro s hempty
  rw [step_of_pending_nil hempty]
  refine ⟨fun hpreset => ?preset, fun hlive hacc => ?accepts, fun hlive hacc hlate => ?deadline,
    fun hlive hacc hpool => ⟨fun t hdue hlate => ?gap, fun t hdue hlate => ?quiesce⟩,
    fun hlive hacc hpool hgap hquiesce => ?tick⟩
  case preset => rw [State.idle_of_preset hpreset]
  case accepts => rw [State.idle_of_acceptable hlive hacc]; rfl
  case deadline =>
    obtain ⟨before, sl, after, hpool, hoverdue, hbefore, hfind⟩ := State.exists_find_overdue hlate
    exact ⟨before, sl, after, hpool, hoverdue, hbefore, by rw [State.idle_of_overdue hlive hacc hfind]⟩
  case gap =>
    have hreached : reached s.gapDue s.now 1 = true := reached_iff.2 ⟨t, hdue, hlate⟩
    rw [State.idle_of_timely_pool hlive hacc hpool, if_pos hreached, exec_gapTimerExpiry,
      if_pos (reached_zero_of_one hreached)]
  case quiesce =>
    have hreached : reached s.quiesceDue s.now 1 = true := reached_iff.2 ⟨t, hdue, hlate⟩
    have hgap : ¬ reached s.gapDue s.now 1 = true := by simp [State.gapDue_eq_none_of_quiesceDue hdue, reached]
    rw [State.idle_of_timely_pool hlive hacc hpool, if_neg hgap, if_pos hreached, exec_quiesceTimerExpiry,
      if_pos (reached_zero_of_one hreached)]
  case tick =>
    rw [State.idle_of_timely_pool hlive hacc hpool, if_neg (not_reached_one hgap), if_neg (not_reached_one hquiesce)]
    rfl

end Sys2Proof.Machine

namespace Sys2Proof.Machine

-- One proof at a time: proofs in parallel wait for one another on threads of their own, each with its stack.
set_option Elab.async false

/-! ### Changes that reach neither the tables nor the H-port -/

/-- The transit table with its collections, the hold pool and the contexts (R2, R3, R13, R16, R41, R63, R85), and the nesting
mode, which R84 reads beside them. -/
structure Tables where
  entries     : Vector (Option Entry) 32
  acceptOrder : List TransitIndex
  issueQ      : List TransitIndex
  respQ       : List TransitIndex
  blocked     : List TransitIndex
  pool        : List Slot
  contexts    : Vector (Option OpenContext) 4
  nesting     : NestingMode

/-- The tables of the part. -/
def State.tables (s : State) : Tables :=
  { entries := s.entries, acceptOrder := s.acceptOrder, issueQ := s.issueQ, respQ := s.respQ, blocked := s.blocked,
    pool := s.pool, contexts := s.contexts, nesting := s.arb.nesting }

/-- The H-port's own state: the reset inputs and the head request (R1, R19, R22). -/
structure HPort where
  preset : Bool
  hreset : Bool
  head   : Option Request

/-- The H-port of the part. -/
def State.hport (s : State) : HPort := { preset := s.preset, hreset := s.hreset, head := s.head }

/-- The part as t is the part as s in its tables, in its H-port and in what the H-port's test reads, and it has begun no
QUIESCE. -/
structure State.Quiet (s t : State) : Prop where
  tables    : t.tables = s.tables
  hport     : t.hport = s.hport
  episode   : t.episode = s.episode
  stall     : t.stallReason = s.stallReason
  executing : t.quiesceDue.isSome = true → s.quiesceDue.isSome = true

section
variable {s t u : State}

theorem State.Quiet.refl (s : State) : s.Quiet s := ⟨rfl, rfl, rfl, rfl, id⟩

theorem State.Quiet.trans (h : s.Quiet t) (h' : t.Quiet u) : s.Quiet u :=
  ⟨h'.tables.trans h.tables, h'.hport.trans h.hport, h'.episode.trans h.episode, h'.stall.trans h.stall,
    fun hu => h.executing (h'.executing hu)⟩

/-- A response to a command ends whatever the link was doing. -/
theorem State.Quiet.answerWith (s : State) (length : Nat) (r : Reply) : s.Quiet (s.answerWith length r) :=
  ⟨rfl, rfl, rfl, rfl, nofun⟩

theorem State.Quiet.postLinkFault (s : State) (d : LinkFaultDetail) : s.Quiet (s.postLinkFault d) :=
  ⟨rfl, rfl, rfl, rfl, id⟩

theorem State.Quiet.tick (s : State) : s.Quiet s.tick := ⟨rfl, rfl, rfl, rfl, id⟩

theorem State.Quiet.quiesceTest (s : State) : s.Quiet s.quiesceTest := by
  unfold State.quiesceTest
  split
  · split
    · exact .refl s
    · exact .answerWith s _ _
  all_goals exact .refl s

theorem State.Quiet.gapExpiry (s : State) : s.Quiet s.gapExpiry := by
  unfold State.gapExpiry
  split
  · exact ⟨rfl, rfl, rfl, rfl, nofun⟩
  · exact ⟨rfl, rfl, rfl, rfl, nofun⟩
  all_goals exact .refl s

theorem State.Quiet.quiesceTimeout (s : State) : s.Quiet s.quiesceTimeout := by
  unfold State.quiesceTimeout
  split
  · exact .answerWith s _ _
  all_goals exact .refl s

theorem State.Quiet.readByte (s : State) : s.Quiet s.readByte := by
  unfold State.readByte
  split
  · exact ⟨rfl, rfl, rfl, rfl, id⟩
  · split
    · next length frame taken _ =>
      refine ⟨rfl, rfl, rfl, rfl, ?_⟩
      by_cases hlast : frame.length ≤ taken + 1 <;> simp [State.quiesceDue, hlast]
    all_goals exact ⟨rfl, rfl, rfl, rfl, id⟩

theorem State.Quiet.linkIdle (s : State) : s.Quiet { s with link := .idle } := ⟨rfl, rfl, rfl, rfl, nofun⟩

/-- What the H-port's test of a request reads of the tables, the lists and the decision it would be given (R5, R6). -/
theorem State.obstacle_congr (r : Request) (hgate : t.gate = s.gate) (hentries : t.entries = s.entries)
    (hblocked : t.blocked.length = s.blocked.length) (hpool : t.pool.length = s.pool.length)
    (hanswer : t.answerLists = s.answerLists) (hcapture : t.captureLists = s.captureLists)
    (hdecision : t.decisionFor r = s.decisionFor r) : t.obstacle r = s.obstacle r := by
  have hfree : t.lowestFree = s.lowestFree := by simp only [State.lowestFree, State.entry, hentries]
  have hclash : t.clashes r = s.clashes r := by simp only [State.clashes, State.anyEntry, hentries]
  have hline : t.lineBlocked r = s.lineBlocked r := by simp only [State.lineBlocked, State.anyEntry, hentries]
  have hfall : ∀ d, t.fallsBack r d = s.fallsBack r d := by simp only [State.fallsBack, hanswer, hcapture, implies_true]
  have hhold : ∀ d, t.wouldHold r d = s.wouldHold r d := by simp only [State.wouldHold, hfall, implies_true]
  have hprospect : t.prospect r = s.prospect r := by
    simp only [State.prospect, hclash, hline, hhold, hdecision]
  simp only [State.obstacle, hgate, hfree, hprospect, hblocked, hpool]

theorem State.stallReason_congr (hport : t.hport = s.hport) (h : ∀ r, t.obstacle r = s.obstacle r) :
    t.stallReason = s.stallReason := by
  obtain ⟨hpreset, hhreset, hhead⟩ := HPort.mk.inj hport
  have hlive : t.hportLive = s.hportLive := by rw [State.hportLive, State.hportLive, hpreset, hhreset]
  rw [State.stallReason, State.stallReason, hhead]
  cases s.head with
  | none => rfl
  | some r => dsimp only; rw [hlive, h]

end

/-- A window with another hit count gives the same decisions: the counters are no part of a match or of a decision (R25,
R28, R30). -/
theorem State.decisionFor_setHits (s : State) (i : WindowIndex) (n : BitVec 16) (r : Request) :
    (s.setWindow i { s.windows[i] with hits := n }).decisionFor r = s.decisionFor r := by
  have hwindow : ∀ j : WindowIndex, (s.setWindow i { s.windows[i] with hits := n }).windows[j] =
      if i = j then { s.windows[j] with hits := n } else s.windows[j] := by
    intro j
    simp only [State.setWindow_windows, Fin.getElem_fin, Vector.getElem_set]
    by_cases h : i = j
    · subst h; simp
    · rw [if_neg h, if_neg fun hval => h (Fin.ext hval)]
  have hmatches : ∀ j : WindowIndex, (s.setWindow i { s.windows[i] with hits := n }).windows[j].matchesRequest r =
      s.windows[j].matchesRequest r := by
    intro j
    rw [hwindow]
    split <;> rfl
  have hselect : (s.setWindow i { s.windows[i] with hits := n }).selectWindow r = s.selectWindow r := by
    simp only [State.selectWindow, hmatches]
  simp only [State.decisionFor, hselect]
  split
  · rw [hwindow]
    split <;> rfl
  · rfl

/-! ### What a framed command can do -/

/-- Everything the owning block can do with a framed command other than QUIESCE, the test of the head request included (R161).
`soft` is what SOFT RESET is allowed under. -/
inductive CommandEffect (soft : Prop) (s : State) : State → Prop
  /-- Nothing that the tables or the H-port's test read. -/
  | quiet {t : State} (h : s.Quiet t) : CommandEffect soft s t
  /-- A change outside the tables, after which the head request is tested again (R5, R33). -/
  | retested {t : State} (htables : t.tables = s.tables) (hport : t.hport = s.hport) :
      CommandEffect soft s t.openEpisode
  /-- SET ARBITRATION: no other nesting mode while a context is OPEN (R95, R96). -/
  | arbitration (a : Arbitration) (h : a.nesting ≠ s.arb.nesting → s.openContexts = []) :
      CommandEffect soft s { s with arb := a }
  /-- TAKE of an eligible WAITING record (R83, R87). -/
  | opened {c : ContextIndex} {sl : Slot} {k : ServiceClass} (hfree : s.context c = none) (hmem : sl ∈ s.pool)
      (hwaiting : sl.context = none) (hclass : s.classOf sl.entry = some k) (heligible : s.classEligible k = true) :
      CommandEffect soft s (s.openContext c sl.entry k)
  /-- EXTEND (R50, R111). -/
  | extended (i : TransitIndex) (due : Option Nat) :
      CommandEffect soft s (s.updateSlot i fun x => { x with deadline := due })
  /-- A closing disposition (R104). -/
  | departed {sl : Slot} {e : Entry} (dest : Departure) (hmem : sl ∈ s.pool) (he : s.entry sl.entry = some e) :
      CommandEffect soft s (s.depart sl e dest).openEpisode
  /-- RELEASE WITH DATA (R107). -/
  | replaced {sl : Slot} {e : Entry} (lanes : Lanes) (data : Word) (hmem : sl ∈ s.pool)
      (he : s.entry sl.entry = some e) :
      CommandEffect soft s ((s.rewrite sl.entry e lanes data).depart sl e .issue).openEpisode
  /-- SOFT RESET (R170). -/
  | softReset (h : soft) : CommandEffect soft s (cmdSoftReset s).1

section
variable {soft : Prop} {s : State}

theorem CommandEffect.refl (s : State) : CommandEffect soft s s := .quiet (.refl s)

theorem CommandEffect.writeWindow (w : WindowImage) : CommandEffect soft s (cmdWriteWindow w s).1 := by
  unfold cmdWriteWindow
  split
  · exact .retested rfl rfl
  · exact .refl s

theorem CommandEffect.readWindow (index flag : Byte) : CommandEffect soft s (cmdReadWindow index flag s).1 := by
  unfold cmdReadWindow
  split
  · next i clear _ _ =>
    cases clear
    · exact .refl s
    · refine .quiet ⟨rfl, rfl, rfl, State.stallReason_congr rfl fun r => ?_, id⟩
      exact State.obstacle_congr r rfl rfl rfl rfl rfl rfl (State.decisionFor_setHits s i 0 r)
  · exact .refl s

theorem CommandEffect.setArbitration (order nesting floor suppressed notifyOn : Byte) :
    CommandEffect soft s (cmdSetArbitration order nesting floor suppressed notifyOn s).1 := by
  unfold cmdSetArbitration
  split
  · exact .refl s
  · next a _ =>
    split
    · exact .refl s
    · next hbusy => exact .arbitration a fun hne => by_contra fun hopen => hbusy ⟨hne, hopen⟩

theorem CommandEffect.take : CommandEffect soft s (cmdTake s).1 := by
  unfold cmdTake
  split
  · exact .refl s
  · next c hfree =>
    split
    · exact .refl s
    · next sl k hsel =>
      split
      · exact .refl s
      · obtain ⟨before, after, hpool, hwaiting, hclass, heligible, -⟩ := State.selected_of_mostUrgent hsel
        exact .opened (State.lowestFreeContext_eq_some.1 hfree).1 (by simp [hpool]) hwaiting hclass heligible

theorem CommandEffect.peek (ctx : Byte) : CommandEffect soft s (cmdPeek ctx s).1 := by
  unfold cmdPeek
  split
  · exact .refl s
  · split <;> exact .refl s

/-- The entry a disposition addresses is the one of a slot record (R85, R103). -/
theorem State.addressed_eq_some {c : ContextIndex} {ticket : Half} {sl : Slot} {e : Entry}
    (h : s.addressed c ticket = some (sl, e)) : sl ∈ s.pool ∧ s.entry sl.entry = some e := by
  unfold State.addressed at h
  split at h
  · cases h
  · next o x y hopening =>
    obtain ⟨-, h⟩ := Option.ite_none_right_eq_some.1 h
    cases h
    simp only [State.opening, Option.bind_eq_bind, Option.bind_eq_some_iff] at hopening
    obtain ⟨o', -, sl', hsl, e', he, heq⟩ := hopening
    cases heq
    exact ⟨List.mem_of_find?_eq_some hsl, State.slotOf_entry hsl ▸ he⟩

/-- A disposition does nothing, or what it does to the entry it addresses. -/
theorem CommandEffect.dispose {ctx : Byte} {ticket : Half} {act : Slot → Entry → State × Reply}
    (hact : ∀ sl e, sl ∈ s.pool → s.entry sl.entry = some e → CommandEffect soft s (act sl e).1) :
    CommandEffect soft s (s.dispose ctx ticket act).1 := by
  unfold State.dispose
  split
  · exact .refl s
  · split
    · exact .refl s
    · next sl e h =>
      obtain ⟨hmem, he⟩ := State.addressed_eq_some h
      exact hact sl e hmem he

theorem CommandEffect.release (ctx : Byte) (ticket : Half) : CommandEffect soft s (cmdRelease ctx ticket s).1 :=
  cmdRelease_eq s ctx ticket ▸ .dispose fun _ _ hmem he => .departed .issue hmem he

theorem CommandEffect.refuse (ctx : Byte) (ticket : Half) : CommandEffect soft s (cmdRefuse ctx ticket s).1 :=
  cmdRefuse_eq s ctx ticket ▸ .dispose fun _ _ hmem he => .departed (.done .error) hmem he

theorem CommandEffect.answer (ctx : Byte) (ticket : Half) (data : Word) :
    CommandEffect soft s (cmdAnswer ctx ticket data s).1 :=
  cmdAnswer_eq s ctx ticket data ▸ .dispose fun _ e hmem he => .departed (.done (okResponse e.req.access data)) hmem he

theorem CommandEffect.releaseWithData (ctx : Byte) (ticket : Half) (lanes : Byte) (data : Word) :
    CommandEffect soft s (cmdReleaseWithData ctx ticket lanes data s).1 := by
  by_cases hlanes : lanes = 0 ∨ 16 ≤ lanes.toNat
  · rw [cmdReleaseWithData_of_bad (.inr hlanes)]
    exact .refl s
  · obtain ⟨hne, hlt⟩ := not_or.1 hlanes
    rw [cmdReleaseWithData_eq s ctx ticket hne (Nat.not_le.1 hlt) data]
    refine .dispose fun sl e hmem he => ?_
    unfold State.releaseReplaced
    split
    · exact .refl s
    · exact .replaced _ data hmem he

theorem CommandEffect.extend (ctx : Byte) (ticket : Half) (code : Byte) :
    CommandEffect soft s (cmdExtend ctx ticket code s).1 := by
  by_cases hcode : 16 ≤ code.toNat
  · rw [cmdExtend_of_bad (.inr hcode)]
    exact .refl s
  · rw [cmdExtend_eq s ctx ticket (Nat.not_le.1 hcode)]
    exact .dispose fun sl _ _ _ => .extended sl.entry _

theorem CommandEffect.setList (list : Byte) (first length : Half) (control : Byte) :
    CommandEffect soft s (cmdSetList list first length control s).1 := by
  unfold cmdSetList
  split
  · split
    · exact .refl s
    · exact .retested rfl rfl
  · split
    · exact .refl s
    · exact .retested rfl rfl
  · exact .refl s

theorem CommandEffect.loadCells (start : Half) (words : List Word) :
    CommandEffect soft s (cmdLoadCells start words s).1 := by
  unfold cmdLoadCells
  split
  · exact .refl s
  · split
    · exact .refl s
    · exact .quiet ⟨rfl, rfl, rfl, rfl, id⟩

theorem CommandEffect.armList (list : Byte) : CommandEffect soft s (cmdArmList list s).1 := by
  unfold cmdArmList
  split
  · exact .refl s
  · dsimp only
    split
    · exact .refl s
    · split
      · exact .refl s
      · exact .retested rfl rfl
  · dsimp only
    split
    · exact .refl s
    · split
      · exact .refl s
      · split <;> exact .retested rfl rfl

theorem CommandEffect.disarmList (list : Byte) : CommandEffect soft s (cmdDisarmList list s).1 := by
  unfold cmdDisarmList
  split
  · exact .refl s
  · exact .retested rfl rfl
  · exact .retested rfl rfl

theorem CommandEffect.readList (list : Byte) : CommandEffect soft s (cmdReadList list s).1 := by
  unfold cmdReadList
  split <;> exact .refl s

theorem CommandEffect.drainCapture (list n : Byte) : CommandEffect soft s (cmdDrainCapture list n s).1 := by
  unfold cmdDrainCapture
  split
  · split
    · exact .refl s
    · dsimp only
      split
      · exact .refl s
      · exact .retested rfl rfl
  · exact .refl s

theorem CommandEffect.readAttention (cause : Byte) : CommandEffect soft s (cmdReadAttention cause s).1 := by
  unfold cmdReadAttention
  split <;> exact .refl s

theorem CommandEffect.clearAttention (causes : Half) : CommandEffect soft s (cmdClearAttention causes s).1 := by
  unfold cmdClearAttention
  split
  · exact .refl s
  · exact .quiet ⟨rfl, rfl, rfl, rfl, id⟩

theorem CommandEffect.setAttentionEnable (causes : Half) :
    CommandEffect soft s (cmdSetAttentionEnable causes s).1 := by
  unfold cmdSetAttentionEnable
  split
  · exact .refl s
  · exact .quiet ⟨rfl, rfl, rfl, rfl, id⟩

theorem CommandEffect.gate (code : Byte) : CommandEffect soft s (cmdGate code s).1 := by
  unfold cmdGate
  split
  · exact .refl s
  · exact .retested rfl rfl

end

/-- The bytes of a frame that the link holds and goes on with at the next write; none where a write starts or continues no
frame (R155, R157). -/
def State.partialFrame (s : State) : Option (List Byte) :=
  match s.link with
  | .idle => some []
  | .receiving bytes _ => some bytes
  | .discarding _ => none
  | .executing _ _ => none
  | .responding _ _ _ => none

/-- The state t is s after the execution of a framed command on the link idle again: its effect and then its response, or
QUIESCE under way or completed (R161, R167); what follows is quiet, and the link takes no further byte of a frame. -/
inductive Commanded (soft : Prop) (s : State) : State → Prop
  | answered {u t : State} {length : Nat} {r : Reply} (h : CommandEffect soft { s with link := .idle } u)
      (hquiet : (u.answerWith length r).Quiet t) (hbusy : t.partialFrame = none) : Commanded soft s t
  | quiesced {t : State} (hquiet : ({ s with link := .idle }).startQuiesce.Quiet t)
      (hbusy : t.partialFrame = none) : Commanded soft s t

theorem State.partialFrame_startQuiesce (s : State) : s.startQuiesce.partialFrame = none := by
  by_cases hsome : s.anyForwarded = true
  · rw [State.startQuiesce_of_forwarded hsome, State.partialFrame, State.openEpisode_link]
  · rw [State.startQuiesce_of_none hsome]
    rfl

/-- Every framed command, executed (R161). -/
theorem State.run_commanded (s : State) (length : Nat) {c : Instr} (hframed : commandPayload c ≠ none) :
    Commanded (c = .softReset) s (({ s with link := .idle }).run length c) := by
  have done {cmd : State → State × Reply}
      (h : CommandEffect (c = .softReset) { s with link := .idle } (cmd { s with link := .idle }).1) :
      Commanded (c = .softReset) s (({ s with link := .idle }).execute length cmd) := .answered h (.refl _) rfl
  cases c with
  | identify => exact done (.refl _)
  | survey => exact done (.refl _)
  | writeWindow w => exact done (.writeWindow w)
  | readWindow index flag => exact done (.readWindow index flag)
  | setArbitration o n f u y => exact done (.setArbitration o n f u y)
  | readArbitration => exact done (.refl _)
  | take => exact done .take
  | peek ctx => exact done (.peek ctx)
  | release ctx ticket => exact done (.release ctx ticket)
  | releaseWithData ctx ticket lanes data => exact done (.releaseWithData ctx ticket lanes data)
  | answer ctx ticket data => exact done (.answer ctx ticket data)
  | refuse ctx ticket => exact done (.refuse ctx ticket)
  | extend ctx ticket code => exact done (.extend ctx ticket code)
  | setList list first len control => exact done (.setList list first len control)
  | loadCells start words => exact done (.loadCells start words)
  | armList list => exact done (.armList list)
  | disarmList list => exact done (.disarmList list)
  | readList list => exact done (.readList list)
  | drainCapture list n => exact done (.drainCapture list n)
  | readAttention cause => exact done (.readAttention cause)
  | clearAttention causes => exact done (.clearAttention causes)
  | setAttentionEnable causes => exact done (.setAttentionEnable causes)
  | gate code => exact done (.gate code)
  | quiesce => exact .quiesced (.refl _) (State.partialFrame_startQuiesce _)
  | softReset => exact done (.softReset rfl)
  | _ => exact absurd rfl hframed

section
variable {soft soft' : Prop} {s t u : State}

theorem CommandEffect.mono (h : CommandEffect soft s t) (himp : soft → soft') : CommandEffect soft' s t := by
  cases h with
  | quiet h => exact .quiet h
  | retested htables hport => exact .retested htables hport
  | arbitration a h => exact .arbitration a h
  | opened hfree hmem hwaiting hclass heligible => exact .opened hfree hmem hwaiting hclass heligible
  | extended i due => exact .extended i due
  | departed dest hmem he => exact .departed dest hmem he
  | replaced lanes data hmem he => exact .replaced lanes data hmem he
  | softReset h => exact .softReset (himp h)

theorem Commanded.mono (h : Commanded soft s t) (himp : soft → soft') : Commanded soft' s t := by
  cases h with
  | answered h hquiet hbusy => exact .answered (h.mono himp) hquiet hbusy
  | quiesced hquiet hbusy => exact .quiesced hquiet hbusy

theorem Commanded.busy (h : Commanded soft s t) : t.partialFrame = none := by
  cases h with
  | answered _ _ hbusy => exact hbusy
  | quiesced _ hbusy => exact hbusy

theorem Commanded.quiet (h : Commanded soft s t) (htu : t.Quiet u) (hbusy : u.partialFrame = none) :
    Commanded soft s u := by
  cases h with
  | answered h hquiet _ => exact .answered h (hquiet.trans htu) hbusy
  | quiesced hquiet _ => exact .quiesced (hquiet.trans htu) hbusy

/-- The bytes received before the frame is complete make no difference to its command (R157). -/
theorem Commanded.of_received {bytes : List Byte} (h : Commanded soft (s.received bytes) t) : Commanded soft s t := by
  cases h with
  | answered h hquiet hbusy => exact .answered h hquiet hbusy
  | quiesced hquiet hbusy => exact .quiesced hquiet hbusy

/-! ### What the bytes of a frame can do (R157 to R161) -/

theorem State.Quiet.received (s : State) (bytes : List Byte) : s.Quiet (s.received bytes) :=
  ⟨rfl, rfl, rfl, rfl, nofun⟩

/-- The frame 6Fh, 00h, 91h is SOFT RESET's and no other's (R156, R160, R175). -/
theorem eq_softResetFrame {op len check : Byte} {payload : List Byte} (hlen : payload.length = len.toNat)
    (hsum : bytesSum (op :: len :: payload ++ [check]) = 0)
    (hread : readCommand op.toNat payload = .command .softReset) :
    op :: len :: payload ++ [check] = [0x6F, 0x00, 0x91] := by
  obtain ⟨-, hpayload, -⟩ := commandPayload_of_readCommand hread
  obtain ⟨hop, rfl⟩ := Prod.mk.inj (Option.some.inj hpayload)
  have hop' : op = 0x6F := by rw [← byteOf_toNat op]; exact hop.symm
  have hlen' : len = 0 := BitVec.eq_of_toNat_eq hlen.symm
  subst hop' hlen'
  have hcheck : check = 0x91 := by
    simp only [bytesSum, List.cons_append, List.nil_append, List.foldl_cons, List.foldl_nil] at hsum
    bv_omega
  rw [hcheck]
  rfl

/-- The examination of a completed frame: a failing status, or the command it carries (R160). -/
theorem State.examine_cases (s : State) {op len check : Byte} {payload : List Byte}
    (hlen : payload.length = len.toNat) :
    let t := ({ s with link := .idle }).examine op len payload check
    (s.Quiet t ∧ t.partialFrame = none) ∨ Commanded (op :: len :: payload ++ [check] = [0x6F, 0x00, 0x91]) s t := by
  dsimp only
  have failed (r : Reply) : s.Quiet (({ s with link := .idle }).answerWith payload.length r) ∧
      (({ s with link := .idle }).answerWith payload.length r).partialFrame = none :=
    ⟨(State.Quiet.linkIdle s).trans (.answerWith _ _ r), rfl⟩
  by_cases hsum : bytesSum (op :: len :: payload ++ [check]) = 0
  · cases hread : readCommand op.toNat payload with
    | unknownOp => exact .inl (State.examine_of_unknownOp hsum hread ▸ failed _)
    | badLength => exact .inl (State.examine_of_badLength hsum hread ▸ failed _)
    | command c =>
      have hframed : commandPayload c ≠ none := by simp [(commandPayload_of_readCommand hread).2.1]
      rw [State.examine_of_command hsum hread]
      refine .inr ((s.run_commanded payload.length hframed).mono ?_)
      rintro rfl
      exact eq_softResetFrame hlen hsum hread
  · exact .inl (State.examine_of_sum hsum ▸ failed _)

/-- The bytes of a frame so far, the last of them just written: the frame goes on, it is overlong, or it is complete. -/
theorem State.receive_cases (s : State) (bytes : List Byte) :
    s.receive bytes = s.received bytes ∨ (s.Quiet (s.receive bytes) ∧ (s.receive bytes).partialFrame = none) ∨
      Commanded (bytes = [0x6F, 0x00, 0x91]) s (s.receive bytes) := by
  match bytes with
  | [] => exact .inl rfl
  | [op] => exact .inl rfl
  | op :: len :: rest =>
    by_cases hover : 80 < len.toNat
    · rw [State.receive_overlong hover]
      exact .inr (.inl ⟨⟨rfl, rfl, rfl, rfl, nofun⟩, rfl⟩)
    · have hmax : len.toNat ≤ 80 := Nat.not_lt.1 hover
      by_cases hroom : rest.length ≤ len.toNat
      · exact .inl (State.receive_partial hmax hroom)
      · cases hdrop : rest.drop len.toNat with
        | nil => exact absurd (List.drop_eq_nil_iff.1 hdrop) hroom
        | cons check more =>
          cases more with
          | nil =>
            have hsplit : rest = rest.take len.toNat ++ [check] := by rw [← hdrop, List.take_append_drop]
            have hlen : (rest.take len.toNat).length = len.toNat := by rw [List.length_take]; omega
            rw [hsplit, State.receive_complete hlen hmax check]
            exact .inr (s.examine_cases hlen)
          | cons x xs =>
            refine .inl ?_
            simp only [State.receive, if_neg (show ¬ Config.maxPayload < len.toNat from hover), hdrop]
            rfl

/-- A write to a link that starts or continues no frame changes nothing but the link's own records (R158, R163). -/
theorem State.writeByte_of_no_frame (h : s.partialFrame = none) (b : Byte) :
    s.Quiet (s.writeByte b) ∧ (s.writeByte b).partialFrame = none := by
  unfold State.writeByte
  split
  · exact ⟨.refl s, h⟩
  · split
    · next hlink => simp [State.partialFrame, hlink] at h
    · next hlink => simp [State.partialFrame, hlink] at h
    · exact ⟨⟨rfl, rfl, rfl, rfl, nofun⟩, rfl⟩
    all_goals exact ⟨.postLinkFault s _, h⟩

theorem State.writeBytes_of_no_frame (h : s.partialFrame = none) (bs : List Byte) :
    s.Quiet (s.writeBytes bs) ∧ (s.writeBytes bs).partialFrame = none := by
  induction bs generalizing s with
  | nil => exact ⟨.refl s, h⟩
  | cons b bs ih =>
    obtain ⟨hquiet, hnone⟩ := State.writeByte_of_no_frame h b
    obtain ⟨hrest, hend⟩ := ih hnone
    exact ⟨hquiet.trans hrest, hend⟩

theorem State.writeByte_of_partialFrame {held : List Byte} (hp : s.preset = false) (h : s.partialFrame = some held)
    (b : Byte) : s.writeByte b = s.receive (held ++ [b]) := by
  unfold State.partialFrame at h
  split at h
  · next hlink => cases h; simp [State.writeByte, hp, hlink]
  · next hlink => cases h; exact State.writeByte_receiving hp hlink b
  all_goals cases h

/-- These bytes, written to a link that holds those, complete the frame of SOFT RESET among them (R156, R175). -/
def CompletesSoftReset (held bs : List Byte) : Prop :=
  ∃ first rest, bs = first ++ rest ∧ first ≠ [] ∧ held ++ first = [0x6F, 0x00, 0x91]

theorem CompletesSoftReset.cons {held bs : List Byte} {b : Byte} (h : CompletesSoftReset (held ++ [b]) bs) :
    CompletesSoftReset held (b :: bs) := by
  obtain ⟨first, rest, hbs, -, hframe⟩ := h
  exact ⟨b :: first, rest, by rw [hbs]; rfl, List.cons_ne_nil b first, by rw [← hframe]; simp⟩

/-- Bytes written one after another execute at most one command: after it the link takes no byte of a frame (R157 to
R163). -/
theorem State.writeBytes_cases (bs : List Byte) :
    s.Quiet (s.writeBytes bs) ∨
      ∃ held, s.partialFrame = some held ∧ Commanded (CompletesSoftReset held bs) s (s.writeBytes bs) := by
  by_cases hp : s.preset = true
  · rw [State.writeBytes_preset hp bs]
    exact .inl (.refl s)
  · cases hheld : s.partialFrame with
    | none => exact .inl (State.writeBytes_of_no_frame hheld bs).1
    | some held =>
      induction bs generalizing s held with
      | nil => exact .inl (.refl s)
      | cons b bs ih =>
        have hbyte := State.writeByte_of_partialFrame (by simpa using hp) hheld b
        have hbytes : s.writeBytes (b :: bs) = (s.receive (held ++ [b])).writeBytes bs :=
          congrArg (State.writeBytes · bs) hbyte
        rw [hbytes]
        rcases s.receive_cases (held ++ [b]) with hmore | ⟨hquiet, hnone⟩ | hcommand
        · rw [hmore]
          rcases ih (s := s.received (held ++ [b])) hp (held ++ [b]) rfl with hquiet | ⟨held', heq, hcommand⟩
          · exact .inl ((State.Quiet.received s _).trans hquiet)
          · cases heq
            exact .inr ⟨held, rfl, (hcommand.mono CompletesSoftReset.cons).of_received⟩
        · exact .inl (hquiet.trans (State.writeBytes_of_no_frame hnone bs).1)
        · obtain ⟨hquiet, hnone⟩ := State.writeBytes_of_no_frame hcommand.busy bs
          refine .inr ⟨held, rfl, (hcommand.mono fun hframe => ?_).quiet hquiet hnone⟩
          exact ⟨[b], bs, rfl, List.cons_ne_nil b [], hframe⟩

end

end Sys2Proof.Machine

namespace Sys2Proof.Machine

-- One proof at a time: proofs in parallel wait for one another on threads of their own, each with its stack.
set_option Elab.async false

/-! ### Everything a step can do -/

/-- Everything the part can do at one step, apart from taking the command off the queue. `soft` is what SOFT RESET is allowed
under. -/
inductive Event (soft : Prop) (s : State) : State → Prop
  /-- Nothing that the tables or the H-port's test read: the link, its timers, a tick. -/
  | quiet {t : State} (h : s.Quiet t) : Event soft s t
  /-- A head request presented (R1). -/
  | presented (r : Request) (hlive : s.hportLive = true) :
      Event soft s ({ s with head := some r, episode := false }).openEpisode
  /-- Acceptance (R5, R7). -/
  | accepted {r : Request} {i : TransitIndex} (hacc : s.acceptable = some r) (hfree : s.lowestFree = some i) :
      Event soft s (s.accept i r).settle
  /-- Issue (R14). -/
  | issued {i : TransitIndex} {rest : List TransitIndex} (hq : s.issueQ = i :: rest) :
      Event soft s ({ s.setRoute i .inMemory with issueQ := rest }).settle
  /-- A memory response for an IN_MEMORY entry (R15). -/
  | responded {i : TransitIndex} {e : Entry} (reply : MemReply) (he : s.entry i = some e) (hroute : e.route = .inMemory) :
      Event soft s (s.respond i e reply).settle
  /-- A memory response for an ORPHAN (R15). -/
  | absorbed {i : TransitIndex} (h : s.routeAt i = some .orphan) : Event soft s (s.setEntry i none).settle
  /-- The host's take (R17). -/
  | taken {i : TransitIndex} {rest : List TransitIndex} (hq : s.respQ = i :: rest) :
      Event soft s ({ s.setEntry i none with
        respQ := rest, acceptOrder := s.acceptOrder.filter fun j => decide (j ≠ i) }).settle
  /-- Host reset (R18). -/
  | hostReset (hpreset : s.preset = false) : Event soft s s.hostResetEvent
  /-- HRESET# asserted while PRESET# is (R185), or negated (R19). -/
  | hresetLevel (level : Bool) (h : level = true → s.preset = true) : Event soft s { s with hreset := level }
  /-- PRESET# asserted (R22). -/
  | powerOn : Event soft s { State.reset with preset := true, hreset := s.hreset, pending := s.pending }
  /-- PRESET# negated (R185). -/
  | presetNegated : Event soft s { s with preset := false, now := 0 }
  /-- The expiry of a deadline (R55). -/
  | expired {sl : Slot} {e : Entry} (d : DeadlineDetail) (dest : Departure) (hmem : sl ∈ s.pool)
      (he : s.entry sl.entry = some e) : Event soft s ((s.postDeadline d).depart sl e dest).settle
  /-- A framed command (R161). -/
  | commanded {t : State} (h : Commanded soft s t) : Event soft s t

section
variable {soft : Prop} {s t : State}

theorem Event.refl (s : State) : Event soft s s := .quiet (.refl s)

theorem Event.mono {soft' : Prop} (h : Event soft s t) (himp : soft → soft') : Event soft' s t := by
  cases h with
  | quiet h => exact .quiet h
  | presented r hlive => exact .presented r hlive
  | accepted hacc hfree => exact .accepted hacc hfree
  | issued hq => exact .issued hq
  | responded reply he hroute => exact .responded reply he hroute
  | absorbed h => exact .absorbed h
  | taken hq => exact .taken hq
  | hostReset hpreset => exact .hostReset hpreset
  | hresetLevel level h => exact .hresetLevel level h
  | powerOn => exact .powerOn
  | presetNegated => exact .presetNegated
  | expired d dest hmem he => exact .expired d dest hmem he
  | commanded h => exact .commanded (h.mono himp)

theorem Event.acceptHead (s : State) : Event soft s s.acceptHead := by
  unfold State.acceptHead
  split
  · next hacc hfree => exact .accepted hacc hfree
  · exact .refl s

theorem Event.expire {sl : Slot} (hmem : sl ∈ s.pool) : Event soft s (s.expire sl) := by
  unfold State.expire
  split
  · exact .refl s
  · next e he =>
    split
    · exact .refl s
    · exact .expired _ _ hmem he

theorem Event.idle (s : State) : Event soft s s.idle := by
  unfold State.idle
  split
  · exact .refl s
  · split
    · exact .acceptHead s
    · split
      · next sl hfind => exact .expire (List.mem_of_find?_eq_some hfind)
      · split
        · exact .quiet (.gapExpiry s)
        · split
          · exact .quiet (.quiesceTimeout s)
          · exact .quiet (.tick s)

/-- The command is SOFT RESET, as its row or as the check byte that completes its frame (R156, R170). -/
def SoftResetBy (c : Instr) (s : State) : Prop :=
  c = .softReset ∨ (c = .frameWrite 0x91 ∧ ∃ since, s.link = .receiving [0x6F, 0x00] since)

theorem State.link_of_partialFrame {held : List Byte} (h : s.partialFrame = some held) (hsome : held ≠ []) :
    ∃ since, s.link = .receiving held since := by
  unfold State.partialFrame at h
  split at h
  · cases h; exact absurd rfl hsome
  · next since hlink => cases h; exact ⟨since, hlink⟩
  all_goals cases h

/-- The one byte that completes SOFT RESET's frame is its check byte (R156). -/
theorem softResetBy_of_byte {held : List Byte} {b : Byte} (hheld : s.partialFrame = some held)
    (h : CompletesSoftReset held [b]) : SoftResetBy (.frameWrite b) s := by
  obtain ⟨first, rest, hsplit, hne, hframe⟩ := h
  obtain ⟨x, more, rfl⟩ := List.exists_cons_of_ne_nil hne
  obtain ⟨rfl, hmore⟩ := List.cons.inj hsplit
  obtain ⟨rfl, rfl⟩ := List.append_eq_nil_iff.1 hmore.symm
  obtain ⟨rfl, hb⟩ := List.append_inj' (t₂ := [0x91]) (s₂ := [0x6F, 0x00]) hframe rfl
  cases hb
  exact .inr ⟨rfl, State.link_of_partialFrame hheld (List.cons_ne_nil _ _)⟩

/-- The opcode bytes: SOFT RESET's is its own, and none is a length byte or check byte of SOFT RESET's frame (R175). -/
theorem commandPayload_opcode {c : Instr} {op : Byte} {payload : List Byte}
    (h : commandPayload c = some (op, payload)) : (op = 0x6F → c = .softReset) ∧ op ≠ 0x00 ∧ op ≠ 0x91 := by
  cases c <;> cases h <;> simp

/-- No command's frame but SOFT RESET's own completes the frame of SOFT RESET. -/
theorem eq_softReset_of_completes {c : Instr} {held : List Byte} (h : CompletesSoftReset held (commandFrame c)) :
    c = .softReset := by
  obtain ⟨first, rest, hsplit, hne, hframe⟩ := h
  obtain ⟨x, more, rfl⟩ := List.exists_cons_of_ne_nil hne
  obtain ⟨op, payload, hpayload, hop⟩ : ∃ op payload, commandPayload c = some (op, payload) ∧ op = x := by
    cases hpayload : commandPayload c with
    | none => simp [commandFrame, hpayload] at hsplit
    | some p =>
      rw [commandFrame_of_payload hpayload] at hsplit
      exact ⟨p.1, p.2, rfl, (List.cons.inj hsplit).1⟩
  obtain ⟨hsoft, hlength, hcheck⟩ := commandPayload_opcode hpayload
  subst hop
  match held, hframe with
  | [], hframe => exact hsoft (List.cons.inj hframe).1
  | [_], hframe => exact absurd (List.cons.inj (List.cons.inj hframe).2).1 hlength
  | [_, _], hframe => exact absurd (List.cons.inj (List.cons.inj (List.cons.inj hframe).2).2).1 hcheck
  | _ :: _ :: _ :: more', hframe => simp at hframe

/-- Everything a command can do. -/
theorem event_of_exec {c : Instr} (h : exec c s = .next t) : Event (SoftResetBy c s) s t := by
  cases c with
  | headRequestPresented r =>
    simp only [exec, execHeadRequestPresented] at h
    split at h
    · cases h; exact .refl s
    · cases h
      split
      · next hlive => exact .presented r hlive
      · exact .refl s
  | acceptance => cases h; exact .acceptHead s
  | issue =>
    simp only [exec, execIssue] at h
    split at h
    · next hq => cases h; exact .issued hq
    · cases h; exact .refl s
  | memoryResponse i reply =>
    simp only [exec, execMemoryResponse] at h
    split at h
    · cases h; exact .refl s
    · next e he =>
      split at h
      · next hroute => cases h; exact .responded reply he hroute
      · next hroute => cases h; exact .absorbed (hroute ▸ State.routeAt_of_entry he)
      all_goals cases h; exact .refl s
  | hostTake =>
    simp only [exec, execHostTake] at h
    split at h
    · next hq => cases h; exact .taken hq
    · cases h; exact .refl s
  | hostReset =>
    cases h
    split
    · next hpreset => exact .hresetLevel true fun _ => hpreset
    · next hpreset =>
      split
      · exact .refl s
      · exact .hostReset (by simpa using hpreset)
  | hresetNegation => cases h; exact .hresetLevel false nofun
  | powerOnReset => cases h; exact .powerOn
  | presetNegation =>
    cases h
    split
    · exact .presetNegated
    · exact .refl s
  | deadlineExpiry i =>
    simp only [exec, execDeadlineExpiry] at h
    split at h
    · cases h; exact .refl s
    · next sl hsl =>
      cases h
      split
      · exact .expire (List.mem_of_find?_eq_some hsl)
      · exact .refl s
  | gapTimerExpiry =>
    cases h
    split
    · exact .quiet (.gapExpiry s)
    · exact .refl s
  | quiesceCompletion => cases h; exact .quiet (.quiesceTest s)
  | quiesceTimerExpiry =>
    cases h
    split
    · exact .quiet (.quiesceTimeout s)
    · exact .refl s
  | frameWrite b =>
    cases h
    rcases s.writeBytes_cases [b] with hquiet | ⟨held, hheld, hcommand⟩
    · exact .quiet hquiet
    · exact .commanded (hcommand.mono (softResetBy_of_byte hheld))
  | frameRead => cases h; exact .quiet (.readByte s)
  | abort control =>
    cases h
    split
    · exact .refl s
    · split
      · exact .quiet (.linkIdle s)
      · exact .refl s
  | _ =>
    rw [eq_writeBytes_of_exec (by simp [commandPayload]) h]
    rcases s.writeBytes_cases (commandFrame _) with hquiet | ⟨held, -, hcommand⟩
    · exact .quiet hquiet
    · exact .commanded (hcommand.mono fun hsoft => .inl (eq_softReset_of_completes hsoft))

/-- Everything a step can do: to the part with its command off the queue, or with no command waiting. -/
theorem event_of_step (h : step s = .next t) :
    (s.pending = [] ∧ Event False s t) ∨
      ∃ c rest, s.pending = c :: rest ∧ Event (SoftResetBy c s) { s with pending := rest } t := by
  cases hpending : s.pending with
  | nil =>
    rw [step_of_pending_nil hpending] at h
    cases h
    exact .inl ⟨rfl, .idle s⟩
  | cons c rest =>
    rw [step_of_pending_cons hpending] at h
    exact .inr ⟨c, rest, rfl, event_of_exec h⟩

/-- What every event keeps, and what does not read the queue, every step keeps. -/
theorem keeps_of_event {P : State → Prop} (hpending : ∀ s rest, P s → P { s with pending := rest })
    (hevent : ∀ s t, P s → Event True s t → P t) (hs : P s) (h : step s = .next t) : P t := by
  rcases event_of_step h with ⟨-, hidle⟩ | ⟨c, rest, -, hcommand⟩
  · exact hevent s t hs (hidle.mono False.elim)
  · exact hevent _ t (hpending s rest hs) (hcommand.mono fun _ => trivial)

end

end Sys2Proof.Machine

namespace Sys2Proof.Machine

-- One proof at a time: proofs in parallel wait for one another on threads of their own, each with its stack.
set_option Elab.async false

/-! ### A stall always has its episode (R10) -/

/-- A stall episode is in progress whenever the head request is not acceptable (R10). -/
def State.StallOpen (s : State) : Prop := s.stallReason ≠ .none → s.episode = true

section
variable {soft : Prop} {s t : State}

/-- The start of a stall episode changes nothing that the stall reason reads. -/
theorem State.openEpisode_stallReason (s : State) : s.openEpisode.stallReason = s.stallReason := by
  refine State.stallReason_congr (by simp [State.hport]) fun r => ?_
  refine State.obstacle_congr r (by simp) (by simp) (by simp) (by simp) (by simp) (by simp) ?_
  simp [State.decisionFor, State.selectWindow]

theorem State.StallOpen.openEpisode (s : State) : s.openEpisode.StallOpen := by
  intro hstall
  rw [State.openEpisode_stallReason] at hstall
  obtain ⟨r, hhead⟩ := State.exists_head_of_stall hstall
  cases hep : s.episode with
  | true => rw [State.openEpisode_eq_self s fun _ => hep, hep]
  | false => rw [State.openEpisode_of_stall hhead hep hstall]

theorem State.StallOpen.quiet (h : s.StallOpen) (hst : s.Quiet t) : t.StallOpen := by
  intro hstall
  rw [hst.episode]
  exact h (hst.stall ▸ hstall)

@[simp] theorem State.openEpisode_hport (s : State) : s.openEpisode.hport = s.hport := by
  simp [State.hport]

/-- A framed command leaves the reset inputs and the head request as they are (R161). -/
theorem CommandEffect.hport (h : CommandEffect soft s t) : t.hport = s.hport := by
  cases h with
  | quiet h => exact h.hport
  | retested _ hport => exact (State.openEpisode_hport _).trans hport
  | arbitration | opened | extended => rfl
  | departed => simp [State.hport]
  | replaced => simp [State.hport]
  | softReset _ => exact State.openEpisode_hport _

theorem State.startQuiesce_hport (s : State) : s.startQuiesce.hport = s.hport := by
  unfold State.startQuiesce
  dsimp only
  split <;> rw [State.openEpisode_hport] <;> rfl

theorem Commanded.hport (h : Commanded soft s t) : t.hport = s.hport := by
  cases h with
  | answered heffect hquiet _ => exact hquiet.hport.trans heffect.hport
  | quiesced hquiet _ => exact hquiet.hport.trans (State.startQuiesce_hport _)

/-- What a framed command keeps of the H-port's test (R5, R10, R11). -/
theorem CommandEffect.stallOpen (h : CommandEffect soft s t) (hs : s.StallOpen) : t.StallOpen := by
  have pool_mapped {u : State} (hobstacle : ∀ r, u.obstacle r = s.obstacle r) (hu : u.hport = s.hport)
      (hep : u.episode = s.episode) : u.StallOpen := by
    intro hstall
    rw [hep]
    exact hs (State.stallReason_congr hu hobstacle ▸ hstall)
  cases h with
  | quiet h => exact hs.quiet h
  | arbitration a _ => exact hs
  | opened => exact pool_mapped (fun r => State.obstacle_congr r rfl rfl rfl (by simp) rfl rfl rfl) rfl rfl
  | extended i due => exact pool_mapped (fun r => State.obstacle_congr r rfl rfl rfl (by simp) rfl rfl rfl) rfl rfl
  | retested | departed | replaced | softReset => exact .openEpisode _

/-! ### The three parts of a settled state (R10, R19, R22, R168) -/

theorem State.anyForwarded_congr (h : t.entries = s.entries) : t.anyForwarded = s.anyForwarded := by
  rw [State.anyForwarded, State.anyEntry, h]
  rfl

theorem State.hportLive_congr (h : t.hport = s.hport) : t.hportLive = s.hportLive ∧ t.head = s.head := by
  obtain ⟨hpreset, hhreset, hhead⟩ := HPort.mk.inj h
  exact ⟨by rw [State.hportLive, State.hportLive, hpreset, hhreset], hhead⟩

theorem State.Settled.quiet (h : s.Settled) (hst : s.Quiet t) : t.Settled := by
  obtain ⟨hstall, hquiesce, hshut⟩ := h
  obtain ⟨hlive, hhead⟩ := State.hportLive_congr hst.hport
  refine ⟨State.StallOpen.quiet hstall hst, fun hdue => ?_, fun hdead => ?_⟩
  · rw [State.anyForwarded_congr (congrArg Tables.entries hst.tables)]
    exact hquiesce (hst.executing hdue)
  · rw [hhead]
    exact hshut (hlive ▸ hdead)

/-- The H-port's test at the end of an event (R10). -/
theorem State.Settled.openEpisode (hquiesce : s.quiesceDue.isSome = true → s.anyForwarded = true)
    (hshut : s.hportLive = false → s.head = none) : s.openEpisode.Settled := by
  refine ⟨State.StallOpen.openEpisode s, fun hdue => ?_, fun hdead => ?_⟩
  · rw [State.anyForwarded_congr s.openEpisode_entries]
    refine hquiesce ?_
    rwa [State.quiesceDue, State.openEpisode_link] at hdue
  · rw [State.openEpisode_head]
    refine hshut ?_
    rwa [State.hportLive, State.openEpisode_preset, State.openEpisode_hreset] at hdead

/-- QUIESCE's test leaves it under way only while an entry is forwarded (R168). -/
theorem State.anyForwarded_of_quiesceTest (h : s.quiesceTest.quiesceDue.isSome = true) :
    s.quiesceTest.anyForwarded = true := by
  rw [State.anyForwarded_congr s.quiesceTest_entries]
  by_contra hnone
  obtain ⟨due, hdue⟩ := Option.isSome_iff_exists.1 ((State.Quiet.quiesceTest s).executing h)
  obtain ⟨L, started, hlink, -⟩ := State.quiesceDue_cases hdue
  rw [State.quiesceTest_of_none hlink hnone] at h
  cases h

/-- Both tests at the end of an event leave the part settled. -/
theorem State.Settled.settle (hshut : s.hportLive = false → s.head = none) : s.settle.Settled := by
  refine State.Settled.openEpisode State.anyForwarded_of_quiesceTest fun hdead => ?_
  rw [State.quiesceTest_head]
  refine hshut ?_
  rwa [State.hportLive, State.quiesceTest_preset, State.quiesceTest_hreset] at hdead

/-- An event between whose start and end-of-event tests the H-port keeps its inputs and its head request. -/
theorem State.Settled.settle_of_hport (h : s.Settled) (hport : t.hport = s.hport) : t.settle.Settled := by
  obtain ⟨-, -, hshut⟩ := h
  obtain ⟨hlive, hhead⟩ := State.hportLive_congr hport
  exact .settle fun hdead => hhead.trans (hshut (hlive ▸ hdead))

theorem State.Settled.of_no_head (hhead : s.head = none) (hquiesce : s.quiesceDue.isSome = true → s.anyForwarded = true) :
    s.Settled :=
  ⟨fun hstall => absurd hstall (by simp [State.stallReason, hhead]), hquiesce, fun _ => hhead⟩

/-! ### Every event settles -/

theorem State.accept_head (s : State) (i : TransitIndex) (r : Request) : (s.accept i r).head = none := by
  unfold State.accept
  split
  · rfl
  · split
    · rfl
    · rw [State.acceptDirect, State.carryOut_head]
      rfl

theorem State.Settled.startQuiesce (h : s.Settled) : s.startQuiesce.Settled := by
  obtain ⟨-, -, hshut⟩ := h
  by_cases hsome : s.anyForwarded = true
  · rw [State.startQuiesce_of_forwarded hsome]
    exact .openEpisode (fun _ => hsome) hshut
  · rw [State.startQuiesce_of_none hsome, ← State.openEpisode_answerWith]
    exact .openEpisode nofun hshut

theorem State.Settled.commanded (h : s.Settled) (hst : Commanded soft s t) : t.Settled := by
  have hidle : ({ s with link := .idle } : State).Settled := h.quiet (.linkIdle s)
  cases hst with
  | @answered u _ length r heffect hquiet _ =>
    obtain ⟨hstall, -, hshut⟩ := hidle
    obtain ⟨hlive, hhead⟩ := State.hportLive_congr heffect.hport
    have hanswered : (u.answerWith length r).Settled :=
      ⟨heffect.stallOpen hstall, nofun, fun hdead => hhead.trans (hshut (hlive ▸ hdead))⟩
    exact hanswered.quiet hquiet
  | quiesced hquiet _ => exact hidle.startQuiesce.quiet hquiet

theorem State.Settled.event (h : s.Settled) (hst : Event soft s t) : t.Settled := by
  have ⟨_, hquiesce, hshut⟩ := h
  cases hst with
  | quiet hst => exact h.quiet hst
  | presented r hlive => exact .openEpisode hquiesce fun hdead => Bool.noConfusion (hlive.symm.trans hdead)
  | accepted => exact .settle fun _ => State.accept_head s _ _
  | issued => exact h.settle_of_hport rfl
  | responded reply => exact h.settle_of_hport (by cases reply <;> rfl)
  | absorbed => exact h.settle_of_hport rfl
  | taken => exact h.settle_of_hport rfl
  | hostReset => exact .settle fun _ => rfl
  | hresetLevel level hlevel =>
    by_cases hlive : s.hportLive = true
    · obtain ⟨hpreset, hhreset⟩ : s.preset = false ∧ s.hreset = false := by simpa [State.hportLive] using hlive
      have hsame : level = s.hreset := by
        cases level
        · exact hhreset.symm
        · exact absurd (hlevel rfl) (by simp [hpreset])
      exact hsame ▸ h
    · exact .of_no_head (hshut (by simpa using hlive)) hquiesce
  | powerOn => exact .of_no_head rfl nofun
  | presetNegated =>
    by_cases hlive : s.hportLive = true
    · obtain ⟨hpreset, -⟩ : s.preset = false ∧ s.hreset = false := by simpa [State.hportLive] using hlive
      refine h.quiet ⟨rfl, by rw [State.hport, State.hport, hpreset], rfl, ?_, id⟩
      exact State.stallReason_congr (by rw [State.hport, State.hport, hpreset]) fun _ => rfl
    · exact .of_no_head (hshut (by simpa using hlive)) hquiesce
  | expired => exact h.settle_of_hport (by simp [State.hport])
  | commanded hst => exact h.commanded hst

end

/-- Settles O58: every event that can change a route state or what the H-port's test reads ends with the two tests or leaves
no QUIESCE under way. -/
theorem stepKeepsSettled : Obligations.StepKeepsSettled :=
  fun _ _ hs hstep => keeps_of_event (P := State.Settled) (fun _ _ h => h) (fun _ _ h hst => h.event hst) hs hstep

end Sys2Proof.Machine

namespace Sys2Proof.Machine

-- One proof at a time: proofs in parallel wait for one another on threads of their own, each with its stack.
set_option Elab.async false

/-! ### Recorded decisions (R2, R29) -/

/-- Every entry in use in t was in use in s with the decision it has. -/
def State.KeepsDecisions (s t : State) : Prop :=
  ∀ i e', t.entry i = some e' → ∃ e, s.entry i = some e ∧ e'.decision = e.decision

section
variable {soft : Prop} {s t u : State}

theorem State.KeepsDecisions.of_entries (h : t.entries = s.entries) : s.KeepsDecisions t :=
  fun i e' he' => ⟨e', State.entry_congr h i ▸ he', rfl⟩

theorem State.KeepsDecisions.trans (h : s.KeepsDecisions t) (h' : t.KeepsDecisions u) : s.KeepsDecisions u := by
  intro i e' he'
  obtain ⟨e₁, he₁, hd₁⟩ := h' i e' he'
  obtain ⟨e₀, he₀, hd₀⟩ := h i e₁ he₁
  exact ⟨e₀, he₀, hd₁.trans hd₀⟩

/-- Only entry i may differ, and it keeps its decision. -/
theorem State.KeepsDecisions.of_one {i : TransitIndex} (hothers : ∀ j, i ≠ j → t.entry j = s.entry j)
    (hself : ∀ e', t.entry i = some e' → ∃ e, s.entry i = some e ∧ e'.decision = e.decision) : s.KeepsDecisions t := by
  intro j e' he'
  by_cases hij : i = j
  · exact hij ▸ hself e' (hij ▸ he')
  · exact ⟨e', hothers j hij ▸ he', rfl⟩

theorem State.KeepsDecisions.setRoute (s : State) (i : TransitIndex) (r : Route) : s.KeepsDecisions (s.setRoute i r) :=
  .of_one (fun j hij => by rw [State.entry_setRoute, if_neg hij]) fun e' he' => by
    rw [State.entry_setRoute, if_pos rfl] at he'
    obtain ⟨e, he, rfl⟩ := Option.map_eq_some_iff.1 he'
    exact ⟨e, he, rfl⟩

theorem State.KeepsDecisions.free (s : State) (i : TransitIndex) : s.KeepsDecisions (s.setEntry i none) :=
  .of_one (fun _ hij => State.entry_setEntry_ne s hij none) fun e' he' => by simp at he'

theorem State.KeepsDecisions.rewrite {i : TransitIndex} {e : Entry} (he : s.entry i = some e) (lanes : Lanes)
    (data : Word) : s.KeepsDecisions (s.rewrite i e lanes data) :=
  .of_one (fun _ hij => State.entry_setEntry_ne s hij _) fun e' he' => by
    rw [State.rewrite, State.entry_setEntry_self] at he'
    cases he'
    exact ⟨e, he, rfl⟩

theorem State.KeepsDecisions.carryOut (s : State) (i : TransitIndex) : s.KeepsDecisions (s.carryOut i) :=
  .of_one (fun _ hij => State.carryOut_entry_ne s hij) fun e' he' => by
    rcases s.carryOut_entry_self i with h | ⟨r, h⟩
    · exact ⟨e', h ▸ he', rfl⟩
    · rw [h] at he'
      obtain ⟨e, he, rfl⟩ := Option.map_eq_some_iff.1 he'
      exact ⟨e, he, rfl⟩

theorem State.KeepsDecisions.walk (s : State) (chain : List TransitIndex) : s.KeepsDecisions (s.walk chain) :=
  State.walk_induction (P := s.KeepsDecisions)
    (fun t i h => h.trans (.trans (.of_entries rfl) (.carryOut { t with blocked := _ } i))) chain s (.of_entries rfl)

theorem State.KeepsDecisions.depart (s : State) (sl : Slot) (e : Entry) (dest : Departure) :
    s.KeepsDecisions (s.depart sl e dest) := by
  have hroute : s.KeepsDecisions ((s.dropSlot sl.entry).routeDeparture sl.entry dest) := by
    cases dest with
    | issue => exact .setRoute (s.dropSlot sl.entry) sl.entry _
    | done r => exact .setRoute (s.dropSlot sl.entry) sl.entry _
  exact (hroute.trans (.of_entries (by simp))).trans (.walk _ _)

/-! ### The transit table at a reset (R18, R21) -/

/-- The entries after every place of the transit table was changed by itself. -/
theorem State.entry_of_map {f : Option Entry → Option Entry} (h : t.entries = s.entries.map f) (i : TransitIndex) :
    t.entry i = f (s.entry i) := by
  simp [State.entry, h]

theorem State.entry_hostResetEvent (s : State) (i : TransitIndex) :
    s.hostResetEvent.entry i = resetEntry (s.entry i) :=
  State.entry_of_map (State.settle_entries _) i

theorem State.entry_cmdSoftReset (s : State) (i : TransitIndex) :
    (cmdSoftReset s).1.entry i = softResetEntry (s.entry i) :=
  State.entry_of_map (State.openEpisode_entries _) i

theorem resetEntry_of_inMemory {e : Entry} (h : e.route = .inMemory) :
    resetEntry (some e) = some { e with route := .orphan } := by
  simp only [resetEntry, h]

theorem resetEntry_of_orphan {e : Entry} (h : e.route = .orphan) : resetEntry (some e) = some e := by
  simp only [resetEntry, h]

theorem resetEntry_of_freed {e : Entry} (hmem : e.route ≠ .inMemory) (horphan : e.route ≠ .orphan) :
    resetEntry (some e) = none := by
  unfold resetEntry
  dsimp only
  split
  · next h => exact absurd h hmem
  · next h => exact absurd h horphan
  all_goals rfl

theorem softResetEntry_of_held {e : Entry} (h : e.route = .held) :
    softResetEntry (some e) = some { e with route := .done .error } := by
  simp only [softResetEntry, Option.map_some, h]

theorem softResetEntry_of_blocked {e : Entry} (h : e.route = .blocked) :
    softResetEntry (some e) = some { e with route := .issueWait, decision := some Decision.unmatched } := by
  simp only [softResetEntry, Option.map_some, h]

theorem softResetEntry_of_other {e : Entry} (hheld : e.route ≠ .held) (hblocked : e.route ≠ .blocked) :
    softResetEntry (some e) = some e := by
  unfold softResetEntry
  rw [Option.map_some]
  split
  · next h => exact absurd h hheld
  · next h => exact absurd h hblocked
  all_goals rfl

theorem State.KeepsDecisions.hostResetEvent (s : State) : s.KeepsDecisions s.hostResetEvent := by
  intro i e' he'
  rw [State.entry_hostResetEvent] at he'
  cases he : s.entry i with
  | none => rw [he] at he'; cases he'
  | some e =>
    rw [he] at he'
    refine ⟨e, rfl, ?_⟩
    by_cases hmem : e.route = .inMemory
    · rw [resetEntry_of_inMemory hmem] at he'; cases he'; rfl
    · by_cases horphan : e.route = .orphan
      · rw [resetEntry_of_orphan horphan] at he'; cases he'; rfl
      · rw [resetEntry_of_freed hmem horphan] at he'; cases he'

/-! ### What each event keeps of them -/

/-- What SOFT RESET makes of an entry's decision: a BLOCKED entry is forwarded with the unmatched decision (R75). -/
theorem softReset_decision {i : TransitIndex} {e e' : Entry} (he : s.entry i = some e)
    (he' : (cmdSoftReset s).1.entry i = some e') :
    e'.decision = e.decision ∨
      (e.route = .blocked ∧ e'.route = .issueWait ∧ e'.decision = some Decision.unmatched) := by
  rw [State.entry_cmdSoftReset, he] at he'
  by_cases hheld : e.route = .held
  · rw [softResetEntry_of_held hheld] at he'; cases he'
    exact .inl rfl
  · by_cases hblocked : e.route = .blocked
    · rw [softResetEntry_of_blocked hblocked] at he'; cases he'
      exact .inr ⟨hblocked, rfl, rfl⟩
    · rw [softResetEntry_of_other hheld hblocked] at he'; cases he'
      exact .inl rfl

/-- The entry a request is accepted into was FREE, and no other changes (R3, R7). -/
theorem State.accept_entry_ne (s : State) {i j : TransitIndex} (hij : i ≠ j) (r : Request) :
    (s.accept i r).entry j = s.entry j := by
  have hcount : (s.countHitFor r).entries = s.entries := by
    unfold State.countHitFor
    split <;> rfl
  have henter (u : State) (hu : u.entries = s.entries) (e : Entry) : (u.enter i e).entry j = s.entry j :=
    (State.entry_setEntry_ne u hij _).trans (State.entry_congr hu j)
  unfold State.accept
  split
  · rw [State.acceptClash]
    refine Eq.trans (State.entry_setRoute _ i j _) ?_
    rw [if_neg hij]
    exact henter s rfl _
  · split
    · exact henter (s.countHitFor r) hcount _
    · rw [State.acceptDirect, State.carryOut_entry_ne _ hij]
      exact henter (s.countHitFor r) hcount _

theorem State.lowestFree_eq_some {i : TransitIndex} : s.lowestFree = some i ↔ s.IsLowestFree i := by
  unfold State.lowestFree State.IsLowestFree
  rw [find?_finRange_eq_some]
  simp only [Option.isNone_iff_eq_none, ne_eq]

/-- What an event makes of an entry in use before and after it. -/
def DecisionOutcome (soft : Prop) (s t : State) : Prop :=
  ∀ i e e', s.entry i = some e → t.entry i = some e' →
    e'.decision = e.decision ∨
      (soft ∧ e.route = .blocked ∧ e'.route = .issueWait ∧ e'.decision = some Decision.unmatched)

theorem DecisionOutcome.of_keeps (h : s.KeepsDecisions t) : DecisionOutcome soft s t := by
  intro i e e' he he'
  obtain ⟨e₀, he₀, hd⟩ := h i e' he'
  obtain rfl : e = e₀ := Option.some.inj (he.symm.trans he₀)
  exact .inl hd

theorem DecisionOutcome.congr (h : DecisionOutcome soft s t) (hut : u.entries = t.entries) :
    DecisionOutcome soft s u :=
  fun i e e' he he' => h i e e' he (State.entry_congr hut i ▸ he')

theorem CommandEffect.decisionOutcome (h : CommandEffect soft s t) : DecisionOutcome soft s t := by
  have openEpisode {u : State} (hu : s.KeepsDecisions u) : DecisionOutcome soft s u.openEpisode :=
    .of_keeps (hu.trans (.of_entries u.openEpisode_entries))
  cases h with
  | quiet h => exact .of_keeps (.of_entries (congrArg Tables.entries h.tables))
  | retested htables _ => exact openEpisode (.of_entries (congrArg Tables.entries htables))
  | arbitration | opened | extended => exact .of_keeps (.of_entries rfl)
  | departed => exact openEpisode (.depart s _ _ _)
  | replaced lanes data hmem he => exact openEpisode (.trans (.rewrite he lanes data) (.depart _ _ _ _))
  | softReset h =>
    intro i e e' he he'
    exact (softReset_decision he he').imp id fun hblocked => ⟨h, hblocked⟩

theorem Commanded.decisionOutcome (h : Commanded soft s t) : DecisionOutcome soft s t := by
  cases h with
  | answered h hquiet _ =>
    exact DecisionOutcome.congr (s := { s with link := .idle }) h.decisionOutcome
      (congrArg Tables.entries hquiet.tables)
  | quiesced hquiet _ =>
    refine .of_keeps (.of_entries ((congrArg Tables.entries hquiet.tables).trans ?_))
    simp only [State.tables, State.startQuiesce, State.openEpisode_entries]
    split <;> rfl

theorem Event.decisionOutcome (h : Event soft s t) : DecisionOutcome soft s t := by
  have settle {u : State} (hu : s.KeepsDecisions u) : DecisionOutcome soft s u.settle :=
    .of_keeps (hu.trans (.of_entries u.settle_entries))
  cases h with
  | quiet h => exact .of_keeps (.of_entries (congrArg Tables.entries h.tables))
  | presented r => exact .of_keeps (.of_entries (by simp))
  | @accepted r i _ hfree =>
    have hfree' : s.entry i = none := (State.lowestFree_eq_some.1 hfree).1
    intro j e e' he he'
    by_cases hij : i = j
    · subst hij
      rw [hfree'] at he
      cases he
    · rw [State.entry_congr (State.settle_entries _), State.accept_entry_ne s hij, he] at he'
      cases he'
      exact .inl rfl
  | issued => exact settle (.setRoute s _ _)
  | responded reply =>
    cases reply with
    | ok w => exact settle (.setRoute s _ _)
    | error => exact settle (.setRoute s _ _)
  | absorbed => exact settle (.free s _)
  | taken => exact settle (.free s _)
  | hostReset => exact .of_keeps (.hostResetEvent s)
  | hresetLevel => exact .of_keeps (.of_entries rfl)
  | powerOn =>
    intro i e e' _ he'
    simp [State.entry, State.reset] at he'
  | presetNegated => exact .of_keeps (.of_entries rfl)
  | expired d dest => exact settle (.trans (.of_entries rfl) (.depart (s.postDeadline d) _ _ _))
  | commanded h => exact h.decisionOutcome

end

/-- Settles O60: SOFT RESET is the one effect that does not keep the decisions of the entries it keeps in use. -/
theorem decisionsChangeOnlyAtSoftReset : Obligations.DecisionsChangeOnlyAtSoftReset := by
  intro s t i e e' hstep he he'
  rcases event_of_step hstep with ⟨-, hidle⟩ | ⟨c, rest, hpending, hcommand⟩
  · exact (hidle.decisionOutcome i e e' he he').imp id fun ⟨hsoft, _⟩ => hsoft.elim
  · refine (hcommand.decisionOutcome i e e' he he').imp id fun ⟨hsoft, hblocked⟩ => ⟨?_, hblocked⟩
    rcases hsoft with rfl | ⟨rfl, since, hlink⟩
    · exact .inl ⟨rest, hpending⟩
    · exact .inr ⟨rest, since, hpending, hlink⟩

end Sys2Proof.Machine

namespace Sys2Proof.Machine

-- One proof at a time: proofs in parallel wait for one another on threads of their own, each with its stack.
set_option Elab.async false

/-! ### The prospective outcome (R6, R9, R62) -/

section
variable {s : State} {r : Request}

theorem State.anyEntry_iff {p : Entry → Bool} : s.anyEntry p = true ↔ ∃ i e, s.entry i = some e ∧ p e = true := by
  unfold State.anyEntry
  rw [State.entries_toList, List.any_map, List.any_eq_true]
  refine exists_congr fun i => ?_
  cases he : s.entry i <;> simp [he]

theorem State.clashes_iff : s.clashes r = true ↔
    ∃ i e, s.entry i = some e ∧ e.route ≠ .orphan ∧ e.req.master = r.master ∧ e.req.tag = r.tag := by
  simp [State.clashes, State.anyEntry_iff, and_assoc]

theorem Route.blocksLine_iff {x : Route} : x.blocksLine = true ↔ x = .held ∨ x = .blocked := by
  cases x <;> simp [Route.blocksLine]

theorem State.lineBlocked_iff : s.lineBlocked r = true ↔
    ∃ i e, s.entry i = some e ∧ (e.route = .held ∨ e.route = .blocked) ∧ e.req.master = r.master ∧
      lineOf e.req.addr = lineOf r.addr := by
  simp [State.lineBlocked, State.anyEntry_iff, Route.blocksLine_iff, and_assoc]

/-- The list unit would apply exhaustion action TRAP: the list for the request's kind is not ARMED and says so (R6, R133). -/
theorem State.fallsBack_iff {d : Decision} : s.fallsBack r d = true ↔
    (r.access = .read ∧ ∃ l, d.readList = some l ∧ s.answerLists[l].state ≠ .armed ∧
      s.answerLists[l].exhaustion = .trap) ∨
    (r.access ≠ .read ∧ ∃ l, d.writeList = some l ∧ s.captureLists[l].state ≠ .armed ∧
      s.captureLists[l].exhaustion = .trap) := by
  unfold State.fallsBack
  cases r.access with
  | read => cases d.readList <;> simp
  | write data => cases d.writeList <;> simp

theorem State.wouldHold_iff {d : Decision} : s.wouldHold r d = true ↔
    d.action = .trap ∨ (d.action = .list ∧ s.fallsBack r d = true) := by
  unfold State.wouldHold
  cases d.action <;> simp

theorem State.prospect_eq_clash_iff : s.prospect r = .clash ↔ s.clashes r = true := by
  unfold State.prospect
  split
  · next h => simp [h]
  · next h =>
    refine iff_of_false ?_ h
    split
    · nofun
    · split <;> nofun

theorem State.prospect_eq_blocked_iff : s.prospect r = .blocked ↔
    ¬ s.clashes r = true ∧ s.lineBlocked r = true := by
  unfold State.prospect
  split
  · next h => simp [h]
  · next h =>
    split
    · next hline => simp [h, hline]
    · next hline =>
      refine iff_of_false ?_ fun hblocked => hline hblocked.2
      split <;> nofun

theorem State.prospect_eq_hold_iff : s.prospect r = .hold ↔
    ¬ s.clashes r = true ∧ ¬ s.lineBlocked r = true ∧ s.wouldHold r (s.decisionFor r) = true := by
  unfold State.prospect
  split
  · next h => simp [h]
  · next h =>
    split
    · next hline => simp [hline]
    · next hline =>
      split
      · next hhold => simp [h, hline, hhold]
      · next hhold => simp [hhold]

end

/-- Settles O8: the tests of `State.prospect` in their order. -/
theorem prospectiveOutcome : Obligations.ProspectiveOutcome := by
  refine fun s r => ⟨?clash, ?blocked, ?hold⟩
  case clash => exact State.prospect_eq_clash_iff.trans State.clashes_iff
  case blocked =>
    rw [ne_eq, State.prospect_eq_clash_iff, State.prospect_eq_blocked_iff, State.lineBlocked_iff]
  case hold =>
    rw [ne_eq, ne_eq, State.prospect_eq_hold_iff, State.prospect_eq_clash_iff, State.prospect_eq_blocked_iff,
      State.wouldHold_iff, State.fallsBack_iff]
    exact and_congr_right fun hclash => and_congr_left fun _ => by simp [hclash]

/-! ### The stall reason (R5, R10) -/

section
variable {s : State} {r : Request}

theorem State.lowestFree_isNone_iff : s.lowestFree.isNone = true ↔ ∀ i, s.entry i ≠ none := by
  simp [State.lowestFree]

theorem Gate.eq_opened_iff {g : Gate} : g = .opened ↔ ¬ g = .closed := by
  cases g <;> simp

/-- The conditions of R5 that fail, in the order of R10. -/
theorem State.obstacle_eq_gate_iff : s.obstacle r = .gate ↔ s.gate = .closed := by
  unfold State.obstacle
  split_ifs <;> simp_all

theorem State.obstacle_eq_transit_iff : s.obstacle r = .transit ↔ s.gate = .opened ∧ ∀ i, s.entry i ≠ none := by
  rw [Gate.eq_opened_iff, ← State.lowestFree_isNone_iff]
  unfold State.obstacle
  split_ifs <;> simp_all

theorem State.exists_free_iff : (∃ i, s.entry i = none) ↔ ¬ s.lowestFree.isNone = true := by
  rw [State.lowestFree_isNone_iff]
  simp

theorem State.obstacle_eq_block_iff : s.obstacle r = .block ↔
    s.gate = .opened ∧ (∃ i, s.entry i = none) ∧ s.prospect r = .blocked ∧ 8 ≤ s.blocked.length := by
  rw [Gate.eq_opened_iff, State.exists_free_iff]
  unfold State.obstacle Config.blockedPlaces
  split_ifs <;> simp_all

theorem State.obstacle_eq_hold_iff : s.obstacle r = .hold ↔
    s.gate = .opened ∧ (∃ i, s.entry i = none) ∧ s.prospect r = .hold ∧ 16 ≤ s.pool.length := by
  rw [Gate.eq_opened_iff, State.exists_free_iff]
  unfold State.obstacle Config.holdSlots
  split_ifs <;> simp_all

/-- The four conditions of R5. -/
theorem State.obstacle_eq_none_iff : s.obstacle r = .none ↔
    s.gate = .opened ∧ (∃ i, s.entry i = none) ∧ (s.prospect r = .blocked → s.blocked.length < 8) ∧
      (s.prospect r = .hold → s.pool.length < 16) := by
  rw [Gate.eq_opened_iff, State.exists_free_iff]
  unfold State.obstacle Config.holdSlots Config.blockedPlaces
  split_ifs <;> simp_all

theorem State.stallReason_of_head (hhead : s.head = some r) (hlive : s.hportLive = true) :
    s.stallReason = s.obstacle r := by
  simp only [State.stallReason, hhead, hlive, if_true]

/-- The head request is acceptable: it is presented at a working H-port and no condition of R5 fails. -/
theorem State.acceptable_eq_some : s.acceptable = some r ↔
    s.head = some r ∧ s.hportLive = true ∧ s.obstacle r = .none := by
  unfold State.acceptable
  cases s.head with
  | none => simp
  | some q =>
    simp only [Option.ite_none_right_eq_some, Option.some.injEq]
    constructor
    · rintro ⟨⟨hlive, hnone⟩, rfl⟩
      exact ⟨rfl, hlive, hnone⟩
    · rintro ⟨rfl, hlive, hnone⟩
      exact ⟨⟨hlive, hnone⟩, rfl⟩

theorem State.stall_of_shut (h : s.head = none ∨ s.hportLive = false) :
    s.stallReason = .none ∧ s.acceptable = none := by
  refine ⟨?_, Option.eq_none_iff_forall_ne_some.2 fun r hr => ?_⟩
  · unfold State.stallReason
    split
    · next r hhead =>
      rcases h with hnone | hdead
      · rw [hnone] at hhead; cases hhead
      · simp [hdead]
    · rfl
  · obtain ⟨hhead, hlive, -⟩ := State.acceptable_eq_some.1 hr
    rcases h with hnone | hdead
    · rw [hnone] at hhead; cases hhead
    · rw [hdead] at hlive; cases hlive

end

/-- Settles O7: the stall reason of a head request is its first obstacle. -/
theorem stallReasonOrder : Obligations.StallReasonOrder := by
  refine ⟨fun s r hhead hlive => ?_, fun s h => State.stall_of_shut h⟩
  rw [State.stallReason_of_head hhead hlive]
  refine ⟨State.obstacle_eq_gate_iff, State.obstacle_eq_transit_iff, State.obstacle_eq_block_iff,
    State.obstacle_eq_hold_iff, State.obstacle_eq_none_iff, ?_⟩
  rw [State.acceptable_eq_some]
  exact ⟨fun ⟨_, _, hnone⟩ => hnone, fun hnone => ⟨hhead, hlive, hnone⟩⟩

/-! ### A head request presented (R1, R10, R11) -/

/-- The part with this head request newly presented (R1). -/
def State.presenting (s : State) (r : Request) : State := { s with head := some r, episode := false }

theorem exec_headRequestPresented {s : State} (r : Request) (hnone : s.head = none) (hlive : s.hportLive = true) :
    exec (.headRequestPresented r) s = .next (s.presenting r).openEpisode := by
  simp only [exec, execHeadRequestPresented, hnone, hlive, if_true, State.presenting]

theorem exec_headRequestPresented_ignored {s : State} (r : Request) (h : s.head ≠ none ∨ s.hportLive = false) :
    exec (.headRequestPresented r) s = .next s := by
  simp only [exec, execHeadRequestPresented]
  split
  · rfl
  · next hhead =>
    rcases h with hsome | hdead
    · exact absurd hhead hsome
    · simp [hdead]

/-- Settles O6: the presentation is the head request in place, and then the H-port's test of it. -/
theorem headRequestPresented : Obligations.HeadRequestPresented := by
  refine fun s r => ⟨fun hnone hlive => ?_, exec_headRequestPresented_ignored r⟩
  have hstall : (s.presenting r).stallReason = s.obstacle r := State.stallReason_of_head (s := s.presenting r) rfl hlive
  have stalled (hreason : s.obstacle r ≠ .none) : (s.presenting r).openEpisode =
      { (s.presenting r).postStall r (s.obstacle r) with episode := true } :=
    hstall ▸ State.openEpisode_of_stall (s := s.presenting r) rfl rfl (hstall ▸ hreason)
  rw [exec_headRequestPresented r hnone hlive]
  refine ⟨fun hreason => ?none, fun hreason => ?silent, fun hreason => ?hold, fun hreason => ?block⟩
  case none => rw [State.openEpisode_eq_self _ fun hne => absurd (hstall.trans hreason) hne]; rfl
  case silent =>
    rcases hreason with hreason | hreason <;> rw [stalled (by simp [hreason]), hreason] <;> rfl
  case hold => rw [stalled (by simp [hreason]), hreason]; rfl
  case block => rw [stalled (by simp [hreason]), hreason]; rfl

end Sys2Proof.Machine

namespace Sys2Proof.Machine

-- One proof at a time: proofs in parallel wait for one another on threads of their own, each with its stack.
set_option Elab.async false

/-! ### A list kept for a set of transit indices -/

/-- The list holds, once each, exactly the indices with this property. -/
structure Lists (q : List TransitIndex) (p : TransitIndex → Prop) : Prop where
  nodup : q.Nodup
  mem   : ∀ i, i ∈ q ↔ p i

section
variable {q : List TransitIndex} {p p' : TransitIndex → Prop} {i : TransitIndex}

theorem Lists.congr (h : Lists q p) (hp : ∀ j, p' j ↔ p j) : Lists q p' :=
  ⟨h.nodup, fun j => (h.mem j).trans (hp j).symm⟩

theorem Lists.append {extra : List TransitIndex} (h : Lists q p) (hnodup : extra.Nodup) (hnew : ∀ j ∈ extra, ¬ p j)
    (hp : ∀ j, p' j ↔ p j ∨ j ∈ extra) : Lists (q ++ extra) p' where
  nodup := List.nodup_append'.2 ⟨h.nodup, hnodup, fun j hj hextra => hnew j hextra ((h.mem j).1 hj)⟩
  mem j := by rw [List.mem_append, h.mem, hp]

/-- One more index joins the tail, or none does. -/
theorem Lists.join {c : Prop} [Decidable c] (h : Lists q p) (hnew : ¬ p i) (hothers : ∀ j, j ≠ i → (p' j ↔ p j))
    (hc : p' i ↔ c) : Lists (if c then q ++ [i] else q) p' := by
  split
  · next hin =>
    refine h.append (List.nodup_singleton i) (by simpa using hnew) fun j => ?_
    by_cases hj : j = i
    · simp [hj, hc, hin]
    · simp [hothers j hj, hj]
  · next hout =>
    refine h.congr fun j => ?_
    by_cases hj : j = i
    · simp [hj, hc, hout, hnew]
    · exact hothers j hj

/-- One index leaves. -/
theorem Lists.leave (h : Lists q p) (hothers : ∀ j, j ≠ i → (p' j ↔ p j)) (hout : ¬ p' i) :
    Lists (q.filter fun j => decide (j ≠ i)) p' where
  nodup := h.nodup.filter _
  mem j := by
    rw [List.mem_filter, h.mem]
    by_cases hj : j = i
    · simp [hj, hout]
    · simp [hothers j hj, hj]

/-- The head of the list leaves it. -/
theorem Lists.tail (h : Lists (i :: q) p) (hothers : ∀ j, j ≠ i → (p' j ↔ p j)) (hout : ¬ p' i) : Lists q p' := by
  obtain ⟨hi, hq⟩ := List.nodup_cons.1 h.nodup
  have hrest : (i :: q).filter (fun j => decide (j ≠ i)) = q := by
    rw [List.filter_cons_of_neg (by simp), List.filter_eq_self]
    exact fun j hj => decide_eq_true fun hji => hi (hji ▸ hj)
  exact hrest ▸ h.leave hothers hout

end

/-- Leaving some out keeps the others in order. -/
theorem idxOf_filter_lt {keep : TransitIndex → Bool} {i j : TransitIndex} (hi : keep i = true) (hj : keep j = true) :
    ∀ {l : List TransitIndex}, l.idxOf i < l.idxOf j → (l.filter keep).idxOf i < (l.filter keep).idxOf j
  | [], h => nomatch h
  | x :: l, h => by
    by_cases hxi : x = i
    · subst hxi
      by_cases hxj : x = j
      · subst hxj
        exact absurd h (Nat.lt_irrefl _)
      · rw [List.filter_cons_of_pos hi, List.idxOf_cons_self, List.idxOf_cons_ne _ hxj]
        exact Nat.succ_pos _
    · by_cases hxj : x = j
      · subst hxj
        rw [List.idxOf_cons_self] at h
        cases h
      · rw [List.idxOf_cons_ne _ hxi, List.idxOf_cons_ne _ hxj] at h
        have hrest := idxOf_filter_lt hi hj (Nat.lt_of_succ_lt_succ h)
        by_cases hx : keep x = true
        · rw [List.filter_cons_of_pos hx, List.idxOf_cons_ne _ hxi, List.idxOf_cons_ne _ hxj]
          exact Nat.succ_lt_succ hrest
        · rwa [List.filter_cons_of_neg hx]

/-! ### Tables that agree, entry by entry -/

/-- What `State.Consistent` says, by the route state at each index. A BLOCKED entry whose chain is `loose` need not stand
behind a HELD entry of its chain: so it is within a departure, for the chain being walked (R64, R69). -/
structure State.AgreeBut (s : State) (loose : Option (Master × BitVec 27) → Prop) : Prop where
  accept     : Lists s.acceptOrder fun i => s.routeAt i ≠ none ∧ s.routeAt i ≠ some .orphan
  issue      : Lists s.issueQ fun i => s.routeAt i = some .issueWait
  resp       : Lists s.respQ fun i => (s.routeAt i).any Route.isDone = true
  blocked    : s.blocked = s.acceptOrder.filter fun i => decide (s.routeAt i = some .blocked)
  held       : Lists (s.pool.map Slot.entry) fun i => s.routeAt i = some .held
  blockedFit : s.blocked.length ≤ 8
  poolFit    : s.pool.length ≤ 16
  decided    : ∀ i e, s.entry i = some e → e.route = .held ∨ e.route = .blocked → e.decision.isSome = true
  behind     : ∀ j, s.routeAt j = some .blocked → ¬ loose (s.chainOf j) →
    ∃ k, s.routeAt k = some .held ∧ s.chainOf k = s.chainOf j ∧ s.acceptOrder.idxOf k < s.acceptOrder.idxOf j
  apart      : ∀ j k, s.routeAt j = some .held → s.routeAt k = some .held → s.chainOf j = s.chainOf k → j = k
  opened     : ∀ c o, s.context c = some o →
    ∃ sl ∈ s.pool, sl.entry = o.entry ∧ sl.context = some c ∧ s.classOf o.entry = some o.cls
  taken      : ∀ sl ∈ s.pool, ∀ c, sl.context = some c → ∃ o, s.context c = some o ∧ o.entry = sl.entry

/-- Every BLOCKED entry stands behind the HELD entry of its chain. -/
abbrev State.Agree (s : State) : Prop := s.AgreeBut fun _ => False

section
variable {s t : State}

/-- Records with distinct chains are records of entries with distinct chains. -/
theorem nodup_chains_iff (hnodup : (s.pool.map Slot.entry).Nodup) : (s.pool.map fun sl => s.chainOf sl.entry).Nodup ↔
    ∀ j ∈ s.pool.map Slot.entry, ∀ k ∈ s.pool.map Slot.entry, s.chainOf j = s.chainOf k → j = k := by
  have hmap : (s.pool.map fun sl => s.chainOf sl.entry) = (s.pool.map Slot.entry).map s.chainOf := by
    rw [List.map_map]
    rfl
  rw [hmap]
  exact List.nodup_map_iff_inj_on hnodup

/-- `State.Consistent`, entry by entry. -/
theorem State.consistent_iff : s.Consistent ↔ s.Agree := by
  constructor
  · rintro ⟨⟨han, ham, hin, him, hrn, hrm, hblocked, hpn, hpm⟩, ⟨hbfit, hpfit⟩, hkept, ⟨hbehind, hchains⟩, hopened,
      htaken⟩
    have hmem : ∀ j, j ∈ s.blocked ↔ s.routeAt j = some .blocked := by
      intro j
      rw [hblocked, List.mem_filter, ham]
      constructor
      · exact fun h => of_decide_eq_true h.2
      · exact fun h => ⟨by simp [h], decide_eq_true h⟩
    refine ⟨⟨han, ham⟩, ⟨hin, him⟩, ⟨hrn, hrm⟩, hblocked, ⟨hpn, hpm⟩, hbfit, hpfit, fun i e he hroute => ?_,
      fun j hj _ => ?_, fun j k hj hk => ?_, hopened, fun sl hsl c hc => ?_⟩
    · simpa [he, Route.blocksLine_iff.2 hroute] using hkept i
    · obtain ⟨sl, hsl, hchain, hbefore⟩ := hbehind j ((hmem j).2 hj)
      exact ⟨sl.entry, (hpm _).1 (List.mem_map_of_mem hsl), hchain, hbefore⟩
    · exact (nodup_chains_iff hpn).1 hchains j ((hpm j).2 hj) k ((hpm k).2 hk)
    · exact Option.map_eq_some_iff.1 (htaken sl hsl c hc)
  · intro h
    have hmem : ∀ j ∈ s.blocked, s.routeAt j = some .blocked := by
      intro j hj
      rw [h.blocked] at hj
      exact of_decide_eq_true (List.mem_filter.1 hj).2
    refine ⟨⟨h.accept.nodup, h.accept.mem, h.issue.nodup, h.issue.mem, h.resp.nodup, h.resp.mem, h.blocked, h.held.nodup,
      h.held.mem⟩, ⟨h.blockedFit, h.poolFit⟩, fun i => ?_, ⟨fun j hj => ?_, ?_⟩, h.opened, fun sl hsl c hc => ?_⟩
    · cases he : s.entry i with
      | none => rfl
      | some e =>
        by_cases hroute : e.route.blocksLine = true
        · simp [h.decided i e he (Route.blocksLine_iff.1 hroute)]
        · simp [hroute]
    · obtain ⟨k, hk, hchain, hbefore⟩ := h.behind j (hmem j hj) id
      obtain ⟨sl, hsl, rfl⟩ := List.mem_map.1 ((h.held.mem k).2 hk)
      exact ⟨sl, hsl, hchain, hbefore⟩
    · exact (nodup_chains_iff h.held.nodup).2 fun j hj k hk =>
        h.apart j k ((h.held.mem j).1 hj) ((h.held.mem k).1 hk)
    · exact Option.map_eq_some_iff.2 (h.taken sl hsl c hc)

/-! ### What the tables alone decide -/

/-- A part with these tables and its other fields at their power-on values. -/
def Tables.part (a : Tables) : State :=
  { State.reset with
    entries := a.entries, acceptOrder := a.acceptOrder, issueQ := a.issueQ, respQ := a.respQ, blocked := a.blocked,
    pool := a.pool, contexts := a.contexts, arb := { Arbitration.powerOn with nesting := a.nesting } }

theorem State.Consistent.of_tables (h : s.Consistent) (ht : t.tables = s.tables) : t.Consistent := by
  have hpart : s.tables.part.Consistent := h
  rw [← ht] at hpart
  exact hpart

theorem State.NestedDistinct.of_tables (h : s.NestedDistinct) (ht : t.tables = s.tables) : t.NestedDistinct := by
  have hpart : s.tables.part.NestedDistinct := h
  rw [← ht] at hpart
  exact hpart

/-! ### Distinct classes in NESTED mode (R84) -/

theorem State.nestedDistinct_iff : s.NestedDistinct ↔ (s.arb.nesting = .nested →
    ∀ c c' o o', s.context c = some o → s.context c' = some o' → o.cls = o'.cls → c = c') := by
  have hpairs : (s.openContexts.map fun x => x.2.cls) =
      (List.finRange 4).filterMap fun c => (s.context c).map OpenContext.cls := by
    simp [State.openContexts, List.map_filterMap, Option.map_map, Function.comp_def]
  unfold State.NestedDistinct
  refine imp_congr_right fun _ => ?_
  rw [hpairs]
  constructor
  · intro hnodup c c' o o' ho ho' hcls
    by_contra hne
    have hapart := @List.Pairwise.forall _ _ _ ⟨fun _ _ hxy y hy x hx => (hxy x hx y hy).symm⟩
      (List.pairwise_filterMap.1 hnodup) c (List.mem_finRange c) c' (List.mem_finRange c') hne
    exact hapart o.cls (Option.map_eq_some_iff.2 ⟨o, ho, rfl⟩) o'.cls (Option.map_eq_some_iff.2 ⟨o', ho', rfl⟩) hcls
  · intro h
    refine (List.nodup_finRange 4).filterMap fun c c' k hc hc' => ?_
    obtain ⟨o, ho, rfl⟩ := Option.map_eq_some_iff.1 hc
    obtain ⟨o', ho', hcls⟩ := Option.map_eq_some_iff.1 hc'
    exact h c c' o o' ho ho' hcls.symm

end

end Sys2Proof.Machine

namespace Sys2Proof.Machine

-- One proof at a time: proofs in parallel wait for one another on threads of their own, each with its stack.
set_option Elab.async false

/-! ### Route, chain and class at an index -/

section
variable {s t : State}

theorem State.chainOf_of_entry {i : TransitIndex} {e : Entry} (h : s.entry i = some e) :
    s.chainOf i = some (e.req.master, lineOf e.req.addr) := by
  rw [State.chainOf, h]; rfl

theorem State.chainOf_congr {i : TransitIndex} (h : t.entry i = s.entry i) : t.chainOf i = s.chainOf i := by
  rw [State.chainOf, State.chainOf, h]

theorem State.classOf_congr {i : TransitIndex} (h : t.entry i = s.entry i) : t.classOf i = s.classOf i := by
  rw [State.classOf, State.classOf, h]

theorem State.routeAt_eq_none {i : TransitIndex} : s.routeAt i = none ↔ s.entry i = none := Option.map_eq_none_iff

theorem State.exists_entry_of_routeAt {i : TransitIndex} {r : Route} (h : s.routeAt i = some r) :
    ∃ e, s.entry i = some e ∧ e.route = r := Option.map_eq_some_iff.1 h

end

namespace State.AgreeBut

variable {s t : State} {loose : Option (Master × BitVec 27) → Prop} {i : TransitIndex}

theorem mem_blocked (h : s.AgreeBut loose) {j : TransitIndex} : j ∈ s.blocked ↔ s.routeAt j = some .blocked := by
  rw [h.blocked, List.mem_filter, h.accept.mem]
  exact ⟨fun hj => of_decide_eq_true hj.2, fun hj => ⟨by simp [hj], decide_eq_true hj⟩⟩

theorem held_of_mem_pool (h : s.AgreeBut loose) {sl : Slot} (hsl : sl ∈ s.pool) : s.routeAt sl.entry = some .held :=
  (h.held.mem _).1 (List.mem_map_of_mem hsl)

/-- An entry has one slot record. -/
theorem slot_unique (h : s.AgreeBut loose) {sl sl' : Slot} (hsl : sl ∈ s.pool) (hsl' : sl' ∈ s.pool)
    (heq : sl.entry = sl'.entry) : sl = sl' := List.inj_on_of_nodup_map h.held.nodup hsl hsl' heq

/-- Entries, queues and contexts as they were, each slot record with its entry and its context. -/
theorem of_same_routes (h : s.AgreeBut loose) (hroute : ∀ j, t.routeAt j = s.routeAt j)
    (hchain : ∀ j, t.chainOf j = s.chainOf j) (hclass : ∀ j, t.classOf j = s.classOf j)
    (hdecided : ∀ j e, t.entry j = some e → ∃ e', s.entry j = some e' ∧ e.route = e'.route ∧ e.decision = e'.decision)
    (horder : t.acceptOrder = s.acceptOrder) (hissue : t.issueQ = s.issueQ) (hresp : t.respQ = s.respQ)
    (hblocked : t.blocked = s.blocked) (hcontexts : t.contexts = s.contexts) {f : Slot → Slot}
    (hpool : t.pool = s.pool.map f) (hentry : ∀ x, (f x).entry = x.entry) (hcontext : ∀ x, (f x).context = x.context) :
    t.AgreeBut loose where
  accept := by rw [horder]; exact h.accept.congr fun j => by rw [hroute]
  issue := by rw [hissue]; exact h.issue.congr fun j => by rw [hroute]
  resp := by rw [hresp]; exact h.resp.congr fun j => by rw [hroute]
  blocked := by simp only [hblocked, horder, hroute]; exact h.blocked
  held := by
    have hmap : t.pool.map Slot.entry = s.pool.map Slot.entry := by
      rw [hpool, List.map_map]
      exact List.map_congr_left fun x _ => hentry x
    rw [hmap]
    exact h.held.congr fun j => by rw [hroute]
  blockedFit := by rw [hblocked]; exact h.blockedFit
  poolFit := by rw [hpool, List.length_map]; exact h.poolFit
  decided j e he hr := by
    obtain ⟨e', he', hroute', hdecision⟩ := hdecided j e he
    rw [hdecision]
    exact h.decided j e' he' (hroute' ▸ hr)
  behind j hj hloose := by
    simp only [hroute, hchain, horder] at hj hloose ⊢
    exact h.behind j hj hloose
  apart j k hj hk hjk := by
    rw [hroute] at hj hk
    rw [hchain, hchain] at hjk
    exact h.apart j k hj hk hjk
  opened c o ho := by
    obtain ⟨sl, hsl, hslo, hslc, hcls⟩ := h.opened c o (by rwa [State.context, ← hcontexts])
    exact ⟨f sl, hpool ▸ List.mem_map_of_mem hsl, (hentry sl).trans hslo, (hcontext sl).trans hslc,
      (hclass _).trans hcls⟩
  taken sl hsl c hc := by
    rw [hpool] at hsl
    obtain ⟨x, hx, rfl⟩ := List.mem_map.1 hsl
    obtain ⟨o, ho, hox⟩ := h.taken x hx c ((hcontext x).symm.trans hc)
    exact ⟨o, by rwa [State.context, hcontexts], hox.trans (hentry x).symm⟩

/-- One entry changes, and it is neither HELD nor BLOCKED before or after: the blocked list, the pool and the contexts stay as
they are, and the acceptance order loses that entry at most. -/
theorem of_reroute (h : s.AgreeBut loose) (hothers : ∀ j, j ≠ i → t.entry j = s.entry j)
    (hbefore : s.routeAt i ≠ some .held ∧ s.routeAt i ≠ some .blocked)
    (hafter : t.routeAt i ≠ some .held ∧ t.routeAt i ≠ some .blocked)
    (hblocked : t.blocked = s.blocked) (hpool : t.pool = s.pool) (hcontexts : t.contexts = s.contexts)
    {keep : TransitIndex → Bool} (horder : t.acceptOrder = s.acceptOrder.filter keep)
    (hkeep : ∀ j, j ≠ i → keep j = true)
    (haccept : Lists t.acceptOrder fun j => t.routeAt j ≠ none ∧ t.routeAt j ≠ some .orphan)
    (hissue : Lists t.issueQ fun j => t.routeAt j = some .issueWait)
    (hresp : Lists t.respQ fun j => (t.routeAt j).any Route.isDone = true) : t.AgreeBut loose := by
  have hroute : ∀ j, j ≠ i → t.routeAt j = s.routeAt j := fun j hj => State.routeAt_congr (hothers j hj)
  have heldIff : ∀ j, t.routeAt j = some .held ↔ s.routeAt j = some .held := by
    intro j
    by_cases hj : j = i
    · subst hj; exact iff_of_false hafter.1 hbefore.1
    · rw [hroute j hj]
  have blockedIff : ∀ j, t.routeAt j = some .blocked ↔ s.routeAt j = some .blocked := by
    intro j
    by_cases hj : j = i
    · subst hj; exact iff_of_false hafter.2 hbefore.2
    · rw [hroute j hj]
  have heldNe : ∀ j, s.routeAt j = some .held → j ≠ i := fun j hj hji => hbefore.1 (hji ▸ hj)
  have blockedNe : ∀ j, s.routeAt j = some .blocked → j ≠ i := fun j hj hji => hbefore.2 (hji ▸ hj)
  refine { accept := haccept, issue := hissue, resp := hresp, blocked := ?blocked, held := ?held,
           blockedFit := hblocked ▸ h.blockedFit, poolFit := hpool ▸ h.poolFit, decided := ?decided, behind := ?behind,
           apart := ?apart, opened := ?opened, taken := ?taken }
  case blocked =>
    rw [hblocked, h.blocked, horder, List.filter_filter]
    refine List.filter_congr fun j _ => ?_
    by_cases hj : j = i
    · subst hj; simp [hafter.2, hbefore.2]
    · simp [hroute j hj, hkeep j hj]
  case held => rw [hpool]; exact h.held.congr heldIff
  case decided =>
    intro j e he hr
    have hj : j ≠ i := by
      rintro rfl
      rcases hr with hr | hr
      · exact hafter.1 (hr ▸ State.routeAt_of_entry he)
      · exact hafter.2 (hr ▸ State.routeAt_of_entry he)
    exact h.decided j e (hothers j hj ▸ he) hr
  case behind =>
    intro j hj hloose
    have hjs := (blockedIff j).1 hj
    have hchain : t.chainOf j = s.chainOf j := State.chainOf_congr (hothers j (blockedNe j hjs))
    rw [hchain] at hloose ⊢
    obtain ⟨k, hk, hkj, hlt⟩ := h.behind j hjs hloose
    refine ⟨k, (heldIff k).2 hk, (State.chainOf_congr (hothers k (heldNe k hk))).trans hkj, ?_⟩
    rw [horder]
    exact idxOf_filter_lt (hkeep k (heldNe k hk)) (hkeep j (blockedNe j hjs)) hlt
  case apart =>
    intro j k hj hk hjk
    have hjs := (heldIff j).1 hj
    have hks := (heldIff k).1 hk
    rw [State.chainOf_congr (hothers j (heldNe j hjs)), State.chainOf_congr (hothers k (heldNe k hks))] at hjk
    exact h.apart j k hjs hks hjk
  case opened =>
    intro c o ho
    obtain ⟨sl, hsl, hslo, hslc, hcls⟩ := h.opened c o (by rwa [State.context, ← hcontexts])
    have hne : o.entry ≠ i := heldNe _ (hslo ▸ h.held_of_mem_pool hsl)
    exact ⟨sl, hpool ▸ hsl, hslo, hslc, (State.classOf_congr (hothers _ hne)).trans hcls⟩
  case taken =>
    intro sl hsl c hc
    obtain ⟨o, ho, hos⟩ := h.taken sl (hpool ▸ hsl) c hc
    exact ⟨o, by rwa [State.context, hcontexts], hos⟩

end State.AgreeBut

/-! ### An entry that takes a route -/

/-- The state t is s after entry i, which is x, has taken this route, at its acceptance or at its unblocking: it has joined the
queue of that route, or the pool with this record, and no other entry and no context has changed (R7, R70). -/
structure State.Placed (s t : State) (i : TransitIndex) (x : Entry) (route : Route) (record : Slot) : Prop where
  entry    : t.entry i = some { x with route := route }
  others   : ∀ j, j ≠ i → t.entry j = s.entry j
  issueQ   : t.issueQ = if route = .issueWait then s.issueQ ++ [i] else s.issueQ
  respQ    : t.respQ = if route.isDone = true then s.respQ ++ [i] else s.respQ
  pool     : t.pool = if route = .held then s.pool ++ [record] else s.pool
  recorded : record.entry = i ∧ record.context = none
  contexts : t.contexts = s.contexts

namespace State.Placed

variable {s t : State} {loose : Option (Master × BitVec 27) → Prop} {i : TransitIndex} {x : Entry} {route : Route}
  {record : Slot}

theorem routeAt_self (h : s.Placed t i x route record) : t.routeAt i = some route := State.routeAt_of_entry h.entry

theorem routeAt_ne (h : s.Placed t i x route record) {j : TransitIndex} (hj : j ≠ i) : t.routeAt j = s.routeAt j :=
  State.routeAt_congr (h.others j hj)

theorem issue (h : s.Placed t i x route record) (hs : s.AgreeBut loose) (hold : s.routeAt i ≠ some .issueWait) :
    Lists t.issueQ fun j => t.routeAt j = some .issueWait := by
  rw [h.issueQ]
  exact hs.issue.join hold (fun j hj => by rw [h.routeAt_ne hj]) (by rw [h.routeAt_self, Option.some.injEq])

theorem resp (h : s.Placed t i x route record) (hs : s.AgreeBut loose)
    (hold : ¬ (s.routeAt i).any Route.isDone = true) :
    Lists t.respQ fun j => (t.routeAt j).any Route.isDone = true := by
  rw [h.respQ]
  exact hs.resp.join hold (fun j hj => by rw [h.routeAt_ne hj]) (by rw [h.routeAt_self]; rfl)

theorem held (h : s.Placed t i x route record) (hs : s.AgreeBut loose) (hold : s.routeAt i ≠ some .held) :
    Lists (t.pool.map Slot.entry) fun j => t.routeAt j = some .held := by
  have hmap : t.pool.map Slot.entry =
      if route = .held then s.pool.map Slot.entry ++ [i] else s.pool.map Slot.entry := by
    rw [h.pool]
    split
    · rw [List.map_append, List.map_singleton, h.recorded.1]
    · rfl
  rw [hmap]
  exact hs.held.join hold (fun j hj => by rw [h.routeAt_ne hj]) (by rw [h.routeAt_self, Option.some.injEq])

theorem poolFit (h : s.Placed t i x route record) (hs : s.AgreeBut loose) (hroom : route = .held → s.pool.length < 16) :
    t.pool.length ≤ 16 := by
  rw [h.pool]
  split
  · next hroute =>
    rw [List.length_append]
    exact hroom hroute
  · exact hs.poolFit

theorem decided (h : s.Placed t i x route record) (hs : s.AgreeBut loose)
    (hx : route = .held ∨ route = .blocked → x.decision.isSome = true) (j : TransitIndex) (e : Entry)
    (he : t.entry j = some e) (hr : e.route = .held ∨ e.route = .blocked) : e.decision.isSome = true := by
  by_cases hj : j = i
  · subst hj
    rw [h.entry] at he
    cases he
    exact hx hr
  · exact hs.decided j e (h.others j hj ▸ he) hr

theorem mem_pool (h : s.Placed t i x route record) {sl : Slot} (hsl : sl ∈ s.pool) : sl ∈ t.pool := by
  rw [h.pool]
  split
  · exact List.mem_append_left _ hsl
  · exact hsl

theorem opened (h : s.Placed t i x route record) (hs : s.AgreeBut loose) (hold : s.routeAt i ≠ some .held)
    (c : ContextIndex) (o : OpenContext) (ho : t.context c = some o) :
    ∃ sl ∈ t.pool, sl.entry = o.entry ∧ sl.context = some c ∧ t.classOf o.entry = some o.cls := by
  obtain ⟨sl, hsl, hslo, hslc, hcls⟩ := hs.opened c o (by rwa [State.context, ← h.contexts])
  have hne : o.entry ≠ i := fun heq => hold (heq ▸ hslo ▸ hs.held_of_mem_pool hsl)
  exact ⟨sl, h.mem_pool hsl, hslo, hslc, (State.classOf_congr (h.others _ hne)).trans hcls⟩

theorem taken (h : s.Placed t i x route record) (hs : s.AgreeBut loose) (sl : Slot) (hsl : sl ∈ t.pool)
    (c : ContextIndex) (hc : sl.context = some c) : ∃ o, t.context c = some o ∧ o.entry = sl.entry := by
  have hmem : sl ∈ s.pool := by
    rw [h.pool] at hsl
    split at hsl
    · rcases List.mem_append.1 hsl with hold | hnew
      · exact hold
      · rw [List.mem_singleton.1 hnew, h.recorded.2] at hc
        cases hc
    · exact hsl
  obtain ⟨o, ho, hos⟩ := hs.taken sl hmem c hc
  exact ⟨o, by rwa [State.context, h.contexts], hos⟩

end State.Placed

/-! ### Acceptance (R3, R7, R62) -/

/-- A request accepted into a FREE entry, whatever its route: the entry joins the acceptance order. It becomes BLOCKED only
with room on the blocked list and behind a HELD entry of its chain, and HELD only with a free slot and none. -/
theorem State.AgreeBut.accepted {s t : State} {i : TransitIndex} {x : Entry} {route : Route} {record : Slot}
    (h : s.Agree) (hfree : s.entry i = none) (hp : s.Placed t i x route record)
    (horder : t.acceptOrder = s.acceptOrder ++ [i])
    (hblocked : t.blocked = if route = .blocked then s.blocked ++ [i] else s.blocked) (horphan : route ≠ .orphan)
    (hdecided : route = .held ∨ route = .blocked → x.decision.isSome = true)
    (hblockedRoom : route = .blocked → s.blocked.length < 8 ∧
      ∃ k, s.routeAt k = some .held ∧ s.chainOf k = some (x.req.master, lineOf x.req.addr))
    (hheldRoom : route = .held → s.pool.length < 16 ∧
      ∀ k, s.routeAt k = some .held → s.chainOf k ≠ some (x.req.master, lineOf x.req.addr)) : t.Agree := by
  have hnone : s.routeAt i = none := State.routeAt_eq_none.2 hfree
  have hnew : i ∉ s.acceptOrder := fun hi => ((h.accept.mem i).1 hi).1 hnone
  have hchain : t.chainOf i = some (x.req.master, lineOf x.req.addr) := by rw [State.chainOf, hp.entry]; rfl
  have hinUse : ∀ j r, s.routeAt j = some r → j ≠ i := fun j r hj hji => by
    rw [hji, hnone] at hj
    cases hj
  have hmem : ∀ j r, s.routeAt j = some r → r ≠ .orphan → j ∈ s.acceptOrder := fun j r hj hr =>
    (h.accept.mem j).2 ⟨by simp [hj], by simpa [hj] using hr⟩
  have heldChain : ∀ k, s.routeAt k = some .held → t.chainOf k = s.chainOf k := fun k hk =>
    State.chainOf_congr (hp.others k (hinUse k _ hk))
  refine { accept := ?accept, issue := hp.issue h (by simp [hnone]), resp := hp.resp h (by simp [hnone]),
           blocked := ?blocked, held := hp.held h (by simp [hnone]), blockedFit := ?blockedFit,
           poolFit := hp.poolFit h fun hr => (hheldRoom hr).1, decided := hp.decided h hdecided, behind := ?behind,
           apart := ?apart, opened := hp.opened h (by simp [hnone]), taken := hp.taken h }
  case accept =>
    rw [horder]
    refine h.accept.append (List.nodup_singleton i) (by simp [hnone]) fun j => ?_
    by_cases hj : j = i
    · subst hj; simp [hp.routeAt_self, horphan]
    · simp [hp.routeAt_ne hj, hj]
  case blocked =>
    have hold : s.acceptOrder.filter (fun j => decide (t.routeAt j = some .blocked)) = s.blocked := by
      rw [h.blocked]
      exact List.filter_congr fun j hj => by rw [hp.routeAt_ne fun hji => hnew (hji ▸ hj)]
    rw [hblocked, horder, List.filter_append, hold]
    by_cases hr : route = .blocked <;> simp [hp.routeAt_self, hr]
  case blockedFit =>
    rw [hblocked]
    split
    · next hr =>
      rw [List.length_append]
      exact (hblockedRoom hr).1
    · exact h.blockedFit
  case behind =>
    intro j hj _
    by_cases hji : j = i
    · subst hji
      have hr : route = .blocked := Option.some.inj (hp.routeAt_self.symm.trans hj)
      obtain ⟨-, k, hk, hkchain⟩ := hblockedRoom hr
      have hkmem := hmem k _ hk (by simp)
      refine ⟨k, (hp.routeAt_ne (hinUse k _ hk)).trans hk, (heldChain k hk).trans (hkchain.trans hchain.symm), ?_⟩
      rw [horder, List.idxOf_append_of_mem hkmem, List.idxOf_append_of_notMem hnew]
      have := List.idxOf_lt_length_of_mem hkmem
      omega
    · have hjs : s.routeAt j = some .blocked := hp.routeAt_ne hji ▸ hj
      obtain ⟨k, hk, hkj, hlt⟩ := h.behind j hjs id
      refine ⟨k, (hp.routeAt_ne (hinUse k _ hk)).trans hk, ?_, ?_⟩
      · rw [heldChain k hk, hkj, State.chainOf_congr (hp.others j hji)]
      · rwa [horder, List.idxOf_append_of_mem (hmem k _ hk (by simp)), List.idxOf_append_of_mem (hmem j _ hjs (by simp))]
  case apart =>
    have hmixed : ∀ k, k ≠ i → t.routeAt i = some .held → t.routeAt k = some .held → t.chainOf i ≠ t.chainOf k := by
      intro k hki hi hk hik
      have hks : s.routeAt k = some .held := hp.routeAt_ne hki ▸ hk
      have hr : route = .held := Option.some.inj (hp.routeAt_self.symm.trans hi)
      exact (hheldRoom hr).2 k hks (by rw [← heldChain k hks, ← hik, hchain])
    intro j k hj hk hjk
    by_cases hji : j = i
    · by_cases hki : k = i
      · rw [hji, hki]
      · subst hji; exact absurd hjk (hmixed k hki hj hk)
    · by_cases hki : k = i
      · subst hki; exact absurd hjk.symm (hmixed j hji hk hj)
      · rw [hp.routeAt_ne hji] at hj
        rw [hp.routeAt_ne hki] at hk
        rw [heldChain j hj, heldChain k hk] at hjk
        exact h.apart j k hj hk hjk

end Sys2Proof.Machine

namespace Sys2Proof.Machine

-- One proof at a time: proofs in parallel wait for one another on threads of their own, each with its stack.
set_option Elab.async false

/-! ### The route that carrying out a decision finds (R8, R70) -/

/-- ISSUE_WAIT, HELD or DONE: the routes of a decision carried out. -/
def Route.CarriedOut (r : Route) : Prop := r = .issueWait ∨ r = .held ∨ r.isDone = true

section
variable {s : State} {i : TransitIndex} {x : Entry} {d : Decision}

/-- A decision carried out leaves its entry ISSUE_WAIT, HELD or DONE. -/
theorem State.carryOut_route (he : s.entry i = some x) (hd : x.decision = some d) {r : Route}
    (hr : (s.carryOut i).routeAt i = some r) : r.CarriedOut := by
  have routed (t : State) (r' : Route) (ht : t.entry i = some x) (hroute : (t.setRoute i r').routeAt i = some r) :
      r = r' := by
    rw [State.routeAt_of_entry (State.entry_setRoute_self ht r')] at hroute
    exact (Option.some.inj hroute).symm
  rcases s.carryOut_cases i with ⟨-, hnone⟩ | h | ⟨_, _, h⟩ | ⟨_, _, _, -, -, h⟩ | ⟨l, -, h⟩ | ⟨l, c, -, h⟩
  · simp [he, hd] at hnone
  · rw [h] at hr
    exact .inl (routed s .issueWait he hr)
  · rw [h] at hr
    exact .inr (.inl (routed s .held he hr))
  · rw [h] at hr
    exact .inr (.inr (routed s (.done .error) he hr ▸ rfl))
  · have hanswered : (s.answered i l).routeAt i = some r := by
      rw [h] at hr
      split at hr <;> exact hr
    exact .inr (.inr (routed { s with answerLists := _ } (.done _) he hanswered ▸ rfl))
  · have hcaptured : (s.captured i l c).routeAt i = some r := by
      rw [h] at hr
      split at hr <;> exact hr
    exact .inr (.inr (routed { s with cells := _, captureLists := _ } (.done .ok) he hcaptured ▸ rfl))

/-- Carrying out a decision places its entry. -/
theorem State.placed_of_carries {u t : State} {route : Route} (hc : u.Carries t i x d route)
    (hothers : ∀ j, j ≠ i → t.entry j = s.entry j) (hissue : u.issueQ = s.issueQ) (hresp : u.respQ = s.respQ)
    (hpool : u.pool = s.pool) (hcontexts : t.contexts = s.contexts) :
    s.Placed t i x route (u.heldSlot i d) where
  entry := hc.entry
  others := hothers
  issueQ := hissue ▸ hc.issueQ
  respQ := hresp ▸ hc.respQ
  pool := hpool ▸ hc.pool
  recorded := ⟨rfl, rfl⟩
  contexts := hcontexts

end

/-! ### The unblocking walk (R64, R69) -/

/-- The walk over a chain is under way: the BLOCKED entries of the chain still to be examined are these, no entry of the chain
is HELD, and the capacity that the departing entry left is free (R44, R69). -/
structure State.Walking (s : State) (chain : Master × BitVec 27) (rest : List TransitIndex) : Prop where
  agree   : s.AgreeBut fun c => c = some chain
  noHeld  : ∀ k, s.routeAt k = some .held → s.chainOf k ≠ some chain
  room    : s.pool.length < 16
  ahead   : rest = s.blocked.filter fun j => decide (s.chainOf j = some chain)

namespace State.Walking

variable {s : State} {chain : Master × BitVec 27} {i : TransitIndex} {rest : List TransitIndex}

/-- With no BLOCKED entry of the chain left, every BLOCKED entry stands behind a HELD one. -/
theorem agree_of_nil (h : s.Walking chain []) : s.Agree :=
  { h.agree with
    behind := fun j hj _ => h.agree.behind j hj fun hchain => by
      have hmem : j ∈ s.blocked.filter fun j => decide (s.chainOf j = some chain) :=
        List.mem_filter.2 ⟨h.agree.mem_blocked.2 hj, decide_eq_true hchain⟩
      rw [← h.ahead] at hmem
      cases hmem }

/-- The entry the walk examines next. -/
theorem next_blocked (h : s.Walking chain (i :: rest)) :
    s.routeAt i = some .blocked ∧ s.chainOf i = some chain ∧
      ∃ x d, s.entry i = some x ∧ x.decision = some d := by
  have hmem : i ∈ s.blocked.filter fun j => decide (s.chainOf j = some chain) := h.ahead ▸ List.mem_cons_self
  obtain ⟨hblocked, hchain⟩ := List.mem_filter.1 hmem
  have hroute := h.agree.mem_blocked.1 hblocked
  obtain ⟨x, hx, hxroute⟩ := State.exists_entry_of_routeAt hroute
  obtain ⟨d, hd⟩ := Option.isSome_iff_exists.1 (h.agree.decided i x hx (.inr hxroute))
  exact ⟨hroute, of_decide_eq_true hchain, x, d, hx, hd⟩

/-- The entries behind the one examined next are behind it in the acceptance order, too (R63). -/
theorem before_of_mem_rest (h : s.Walking chain (i :: rest)) {j : TransitIndex} (hj : j ∈ rest) :
    s.acceptOrder.idxOf i < s.acceptOrder.idxOf j := by
  have hsub : (i :: rest).Sublist s.acceptOrder := by
    rw [h.ahead, h.agree.blocked]
    exact List.filter_sublist.trans List.filter_sublist
  obtain ⟨before, after, hsplit, hrest⟩ := List.cons_sublist_iff.1 hsub
  obtain ⟨hi, hj'⟩ : i ∈ before ∧ j ∈ after := ⟨hrest.1, hrest.2.subset hj⟩
  have hnodup := h.agree.accept.nodup
  rw [hsplit] at hnodup
  have hjbefore : j ∉ before := fun hb => (List.nodup_append'.1 hnodup).2.2 hb hj'
  rw [hsplit, List.idxOf_append_of_mem hi, List.idxOf_append_of_notMem hjbefore]
  have := List.idxOf_lt_length_of_mem hi
  omega

/-- One entry of the walk: it is HELD, and the chain is in order again; or the walk goes on behind it. -/
theorem walkOne (h : s.Walking chain (i :: rest)) :
    ((s.walkOne i).routeAt i = some .held ∧ (s.walkOne i).Agree) ∨
      ((s.walkOne i).routeAt i ≠ some .held ∧ (s.walkOne i).Walking chain rest) := by
  obtain ⟨hiroute, hichain, x, d, hx, hd⟩ := h.next_blocked
  obtain ⟨route, hc⟩ := State.walkOne_carries hx hd
  have hp : s.Placed (s.walkOne i) i x route (s.heldSlot i d) :=
    State.placed_of_carries hc (fun j hj => State.entry_walkOne_ne hj) rfl rfl rfl (State.carryOut_contexts _ i)
  have hcarried : route.CarriedOut :=
    State.carryOut_route (s := { s with blocked := s.blocked.filter fun j => decide (j ≠ i) }) hx hd hp.routeAt_self
  have hrouteNot : route ≠ .blocked ∧ route ≠ .orphan := by
    rcases hcarried with rfl | rfl | hdone
    · simp
    · simp
    · constructor <;> rintro rfl <;> cases hdone
  have horder : (s.walkOne i).acceptOrder = s.acceptOrder := State.carryOut_acceptOrder _ i
  have hblocked : (s.walkOne i).blocked = s.blocked.filter fun j => decide (j ≠ i) := State.carryOut_blocked _ i
  have hchain : ∀ j, (s.walkOne i).chainOf j = s.chainOf j := by
    intro j
    by_cases hj : j = i
    · rw [hj, State.chainOf, State.chainOf, hp.entry, hx]; rfl
    · exact State.chainOf_congr (hp.others j hj)
  have hpoolFit := hp.poolFit h.agree fun _ => h.room
  have hheldOld : ∀ k, s.routeAt k = some .held → (s.walkOne i).routeAt k = some .held := fun k hk =>
    (hp.routeAt_ne fun hki => by rw [hki, hiroute] at hk; cases hk).trans hk
  have hne : ∀ j, (s.walkOne i).routeAt j = some .blocked → j ≠ i := fun j hj hji => by
    rw [hji, hp.routeAt_self] at hj
    exact hrouteNot.1 (Option.some.inj hj)
  have hagree : (s.walkOne i).AgreeBut fun c => c = some chain := by
    refine { accept := ?accept, issue := hp.issue h.agree (by simp [hiroute]),
             resp := hp.resp h.agree (by simp [hiroute, Route.isDone]), blocked := ?blocked,
             held := hp.held h.agree (by simp [hiroute]), blockedFit := ?blockedFit, poolFit := hpoolFit,
             decided := hp.decided h.agree fun _ => by simp [hd], behind := ?behind, apart := ?apart,
             opened := hp.opened h.agree (by simp [hiroute]), taken := hp.taken h.agree }
    case accept =>
      rw [horder]
      refine h.agree.accept.congr fun j => ?_
      by_cases hj : j = i
      · subst hj; simp [hp.routeAt_self, hiroute, hrouteNot]
      · rw [hp.routeAt_ne hj]
    case blocked =>
      rw [hblocked, horder, h.agree.blocked, List.filter_filter]
      refine List.filter_congr fun j _ => ?_
      by_cases hj : j = i
      · subst hj; simp [hp.routeAt_self, hrouteNot]
      · simp [hp.routeAt_ne hj, hj]
    case blockedFit => rw [hblocked]; exact (List.length_filter_le _ _).trans h.agree.blockedFit
    case behind =>
      intro j hj hloose
      rw [hchain] at hloose ⊢
      obtain ⟨k, hk, hkj, hlt⟩ := h.agree.behind j (hp.routeAt_ne (hne j hj) ▸ hj) hloose
      exact ⟨k, hheldOld k hk, (hchain k).trans hkj, horder ▸ hlt⟩
    case apart =>
      have hmixed : ∀ k, k ≠ i → (s.walkOne i).routeAt k = some .held → s.chainOf k ≠ s.chainOf i := by
        intro k hki hk hkchain
        exact h.noHeld k (hp.routeAt_ne hki ▸ hk) (hkchain.trans hichain)
      intro j k hj hk hjk
      rw [hchain, hchain] at hjk
      by_cases hji : j = i
      · by_cases hki : k = i
        · rw [hji, hki]
        · exact absurd (hji ▸ hjk).symm (hmixed k hki hk)
      · by_cases hki : k = i
        · exact absurd (hki ▸ hjk) (hmixed j hji hj)
        · exact h.agree.apart j k (hp.routeAt_ne hji ▸ hj) (hp.routeAt_ne hki ▸ hk) hjk
  have hahead : rest = (s.walkOne i).blocked.filter fun j => decide ((s.walkOne i).chainOf j = some chain) := by
    have hnodup : (i :: rest).Nodup := by
      rw [h.ahead, h.agree.blocked]
      exact (h.agree.accept.nodup.filter _).filter _
    simp only [hblocked, hchain, List.filter_filter]
    have hcomm : (s.blocked.filter fun j => decide (s.chainOf j = some chain) && decide (j ≠ i)) =
        (i :: rest).filter fun j => decide (j ≠ i) := by
      rw [h.ahead, List.filter_filter]
      exact List.filter_congr fun j _ => Bool.and_comm _ _
    rw [hcomm, List.filter_cons_of_neg (by simp), eq_comm, List.filter_eq_self]
    exact fun j hj => decide_eq_true fun hji => (List.nodup_cons.1 hnodup).1 (hji ▸ hj)
  by_cases hheld : route = .held
  · refine .inl ⟨by rw [hp.routeAt_self, hheld], { hagree with behind := fun j hj _ => ?_ }⟩
    by_cases hloose : (s.walkOne i).chainOf j = some chain
    · have hjrest : j ∈ rest := by
        rw [hahead]
        exact List.mem_filter.2 ⟨hagree.mem_blocked.2 hj, decide_eq_true hloose⟩
      refine ⟨i, by rw [hp.routeAt_self, hheld], by rw [hchain, hichain, hloose], ?_⟩
      rw [horder]
      exact h.before_of_mem_rest hjrest
    · exact hagree.behind j hj hloose
  · refine .inr ⟨by simpa [hp.routeAt_self] using hheld, hagree, fun k hk => ?_, ?_, hahead⟩
    · have hki : k ≠ i := fun hki => hheld (Option.some.inj (hp.routeAt_self.symm.trans (hki ▸ hk)))
      rw [hchain]
      exact h.noHeld k (hp.routeAt_ne hki ▸ hk)
    · rw [hp.pool, if_neg hheld]
      exact h.room

/-- The walk ends with every BLOCKED entry behind a HELD one (R64, R69). -/
theorem walk_agree {rest : List TransitIndex} : ∀ {s : State}, s.Walking chain rest → (s.walk rest).Agree := by
  induction rest with
  | nil => exact fun h => h.agree_of_nil
  | cons i rest ih =>
    intro s h
    rw [State.walk_cons]
    rcases h.walkOne with ⟨hheld, hagree⟩ | ⟨hnot, hnext⟩
    · rwa [if_pos (State.routeIs_iff.2 hheld)]
    · rw [if_neg fun hheld => hnot (State.routeIs_iff.1 hheld)]
      exact ih hnext

end State.Walking

/-! ### The departure (R52, R90) -/

section
variable {s : State} {sl : Slot} {e : Entry}

/-- A context OPEN after the steps before the walk was OPEN before them, and is not the departing entry's. -/
theorem State.context_departed (dest : Departure) (c : ContextIndex) :
    (s.departed sl e dest).context c = if sl.context = some c then none else s.context c := by
  unfold State.context State.departed
  cases hc : sl.context with
  | none => simp
  | some c' =>
    by_cases hcc : c' = c
    · subst hcc; simp
    · have hval : c'.val ≠ c.val := fun h => hcc (Fin.ext h)
      simp [hcc, hval]

/-- The route a departing entry takes. -/
theorem State.routeAt_departed_self (dest : Departure) :
    (s.departed sl e dest).routeAt sl.entry = some (match dest with
      | .issue => .issueWait
      | .done r => .done r) := State.routeAt_of_entry (State.entry_departed_self dest)

/-- When the departing entry has left its slot and its context, the walk of its chain is all that is missing (R52). -/
theorem State.AgreeBut.departed_walking (h : s.Agree) (hsl : sl ∈ s.pool) (he : s.entry sl.entry = some e)
    (dest : Departure) : (s.departed sl e dest).Walking (e.req.master, lineOf e.req.addr)
      (s.blocked.filter fun j => decide (s.chainOf j = some (e.req.master, lineOf e.req.addr))) := by
  have hheld := h.held_of_mem_pool hsl
  have hself := State.routeAt_departed_self (s := s) (sl := sl) (e := e) dest
  have hroute : ∀ j, j ≠ sl.entry → (s.departed sl e dest).routeAt j = s.routeAt j := fun j hj =>
    State.routeAt_congr (State.entry_departed_ne hj dest)
  have hchain := State.chainOf_departed he dest
  have hselfChain : s.chainOf sl.entry = some (e.req.master, lineOf e.req.addr) := State.chainOf_of_entry he
  have hpool : (s.departed sl e dest).pool = s.pool.filter fun x => decide (x.entry ≠ sl.entry) := rfl
  have hmemPool : ∀ x, x ∈ (s.departed sl e dest).pool ↔ x ∈ s.pool ∧ x.entry ≠ sl.entry := by
    intro x
    rw [hpool, List.mem_filter, decide_eq_true_iff]
  have hselfNot : ∀ r, r = .held ∨ r = .blocked → (s.departed sl e dest).routeAt sl.entry ≠ some r := by
    intro r hr hroute
    rw [hself] at hroute
    cases dest <;> cases hroute <;> simp at hr
  have hne : ∀ j r, (s.departed sl e dest).routeAt j = some r → r = .held ∨ r = .blocked → j ≠ sl.entry :=
    fun j r hj hr hji => hselfNot r hr (hji ▸ hj)
  have hnoHeld : ∀ k, (s.departed sl e dest).routeAt k = some .held →
      s.routeAt k = some .held ∧ s.chainOf k ≠ some (e.req.master, lineOf e.req.addr) := by
    intro k hk
    have hks := hne k _ hk (.inl rfl)
    have hkheld := hroute k hks ▸ hk
    exact ⟨hkheld, fun hkchain => hks (h.apart k sl.entry hkheld hheld (hkchain.trans hselfChain.symm))⟩
  have hless : (s.departed sl e dest).pool.length < s.pool.length := by
    rw [hpool]
    exact List.length_filter_lt_length_iff_exists.2 ⟨sl, hsl, by simp⟩
  refine { agree := ?agree, noHeld := fun k hk => hchain k ▸ (hnoHeld k hk).2,
           room := Nat.lt_of_lt_of_le hless h.poolFit, ahead := by simp only [hchain]; rfl }
  refine { accept := ?accept, issue := ?issueQ, resp := ?respQ, blocked := ?blocked, held := ?held,
           blockedFit := h.blockedFit, poolFit := (Nat.le_of_lt hless).trans h.poolFit, decided := ?decided,
           behind := ?behind, apart := ?apart, opened := ?opened, taken := ?taken }
  case accept =>
    refine h.accept.congr fun j => ?_
    by_cases hj : j = sl.entry
    · subst hj
      rw [hself, hheld]
      cases dest <;> simp
    · rw [hroute j hj]
  case issueQ =>
    have hq : (s.departed sl e dest).issueQ = if dest = .issue then s.issueQ ++ [sl.entry] else s.issueQ := by
      cases dest <;> simp [State.departed]
    rw [hq]
    refine h.issue.join (by simp [hheld]) (fun j hj => by rw [hroute j hj]) ?_
    rw [hself]
    cases dest <;> simp
  case respQ =>
    have hq : (s.departed sl e dest).respQ = if dest = .issue then s.respQ else s.respQ ++ [sl.entry] := by
      cases dest <;> simp [State.departed]
    rw [hq, ← ite_not]
    refine h.resp.join (by simp [hheld, Route.isDone]) (fun j hj => by rw [hroute j hj]) ?_
    rw [hself]
    cases dest <;> simp [Route.isDone]
  case blocked =>
    refine h.blocked.trans (List.filter_congr fun j _ => ?_)
    by_cases hj : j = sl.entry
    · subst hj
      simp [hheld, hselfNot .blocked (.inr rfl)]
    · rw [hroute j hj]
  case held =>
    have hmap : (s.departed sl e dest).pool.map Slot.entry =
        (s.pool.map Slot.entry).filter fun j => decide (j ≠ sl.entry) := by
      rw [hpool, List.filter_map]
      rfl
    rw [hmap]
    exact h.held.leave (fun j hj => by rw [hroute j hj]) (hselfNot .held (.inl rfl))
  case decided =>
    intro j x hx hr
    have hj : j ≠ sl.entry := by
      rintro rfl
      exact hselfNot x.route hr (State.routeAt_of_entry hx)
    exact h.decided j x (State.entry_departed_ne hj dest ▸ hx) hr
  case behind =>
    intro j hj hloose
    have hjs := hne j _ hj (.inr rfl)
    rw [hchain] at hloose ⊢
    obtain ⟨k, hk, hkj, hlt⟩ := h.behind j (hroute j hjs ▸ hj) id
    have hks : k ≠ sl.entry := by
      rintro rfl
      exact hloose (hkj.symm.trans hselfChain)
    exact ⟨k, (hroute k hks).trans hk, (hchain k).trans hkj, hlt⟩
  case apart =>
    intro j k hj hk hjk
    rw [hchain, hchain] at hjk
    exact h.apart j k (hnoHeld j hj).1 (hnoHeld k hk).1 hjk
  case opened =>
    intro c o ho
    rw [State.context_departed] at ho
    split at ho
    · cases ho
    · next hc =>
      obtain ⟨x, hx, hxo, hxc, hcls⟩ := h.opened c o ho
      have hxs : x.entry ≠ sl.entry := fun heq => hc (h.slot_unique hx hsl heq ▸ hxc)
      exact ⟨x, (hmemPool x).2 ⟨hx, hxs⟩, hxo, hxc,
        (State.classOf_congr (State.entry_departed_ne (hxo ▸ hxs) dest)).trans hcls⟩
  case taken =>
    intro x hx c hc
    obtain ⟨hxs, hxne⟩ := (hmemPool x).1 hx
    obtain ⟨o, ho, hox⟩ := h.taken x hxs c hc
    refine ⟨o, ?_, hox⟩
    rw [State.context_departed, if_neg]
    · exact ho
    · intro hslc
      obtain ⟨o', ho', hosl⟩ := h.taken sl hsl c hslc
      obtain rfl := Option.some.inj (ho.symm.trans ho')
      exact hxne (hox.symm.trans hosl)

theorem State.AgreeBut.depart (h : s.Agree) (hsl : sl ∈ s.pool) (he : s.entry sl.entry = some e) (dest : Departure) :
    (s.depart sl e dest).Agree := by
  rw [State.depart_eq_walk he]
  exact (h.departed_walking hsl he dest).walk_agree

/-- A departure opens no context and keeps the nesting mode (R90). -/
theorem State.NestedDistinct.depart (h : s.NestedDistinct) (he : s.entry sl.entry = some e) (dest : Departure) :
    (s.depart sl e dest).NestedDistinct := by
  rw [State.nestedDistinct_iff] at h ⊢
  have hnesting : (s.depart sl e dest).arb.nesting = s.arb.nesting := by
    rw [State.depart_eq_walk he, State.walk_arb]
    show (s.arbAfterClose sl.context).nesting = s.arb.nesting
    unfold State.arbAfterClose
    split
    · rfl
    · split <;> rfl
  have hcontext : ∀ c o, (s.depart sl e dest).context c = some o → s.context c = some o := by
    intro c o ho
    rw [State.depart_eq_walk he, State.context, State.walk_contexts] at ho
    have ho' : (s.departed sl e dest).context c = some o := ho
    rw [State.context_departed] at ho'
    split at ho'
    · cases ho'
    · exact ho'
  rw [hnesting]
  exact fun hmode c c' o o' ho ho' => h hmode c c' o o' (hcontext c o ho) (hcontext c' o' ho')

end

end Sys2Proof.Machine

namespace Sys2Proof.Machine

-- One proof at a time: proofs in parallel wait for one another on threads of their own, each with its stack.
set_option Elab.async false

/-! ### A recorded decision carried out (R8, R70, R129, R133) -/

theorem Access.exists_write {a : Access} (h : a ≠ .read) : ∃ data, a = .write data := by
  cases a with
  | read => exact absurd rfl h
  | write data => exact ⟨data, rfl⟩

section
variable {s : State} {i : TransitIndex} {e : Entry} {d : Decision}

theorem State.forward_eq (he : s.entry i = some e) : s.forward i =
    { s with entries := s.entries.set i (some { e with route := .issueWait }), issueQ := s.issueQ ++ [i] } := by
  simp [State.forward, State.setRoute, State.setEntry, he]

theorem State.hold_eq (he : s.entry i = some e) (how : HowHeld) (code : Fin 16) : s.hold i how code.val =
    { s with
      entries := s.entries.set i (some { e with route := .held })
      pool := s.pool ++ [{
        entry := i
        heldSince := s.now
        deadline := if code = 0 then none else some (s.now + 2 ^ (code.val + 1))
        how := how
        context := none }] } := by
  rw [← deadlineFrom_eq]
  simp [State.hold, State.setRoute, State.setEntry, he]

theorem State.refuseEntry_eq (he : s.entry i = some e) (source : RefusalSource) : s.refuseEntry i e d source =
    { s with
      entries := s.entries.set i (some { e with route := .done .error })
      respQ := s.respQ ++ [i]
      causes := { s.causes with
        refusal := post s.causes.refusal
          { window := d.window, master := e.req.master, addr := e.req.addr, kind := kindOf e.req.access,
            source := source } } } := by
  rw [State.refuseEntry, State.complete_eq he]
  rfl

theorem State.carryOut_of_pass (he : s.entry i = some e) (hd : e.decision = some d) (hact : d.action = .pass) :
    s.carryOut i = s.forward i := by
  simp [State.carryOut, he, hd, hact]

theorem State.carryOut_of_refuse (he : s.entry i = some e) (hd : e.decision = some d) (hact : d.action = .refuse) :
    s.carryOut i = s.refuseEntry i e d .window := by
  simp [State.carryOut, he, hd, hact]

theorem State.carryOut_of_trap (he : s.entry i = some e) (hd : e.decision = some d) (hact : d.action = .trap) :
    s.carryOut i = s.hold i .trapWindow d.deadlineCode.val := by
  simp [State.carryOut, he, hd, hact]

/-- With no list for its kind a request is forwarded (R129). -/
theorem State.serve_of_no_readList (hread : e.req.access = .read) (hl : d.readList = none) :
    s.serve i e d = s.forward i := by
  simp [State.serve, hread, hl]

theorem State.serve_of_no_writeList (hwrite : e.req.access ≠ .read) (hl : d.writeList = none) :
    s.serve i e d = s.forward i := by
  unfold State.serve
  split
  · next hread => exact absurd hread hwrite
  · rw [hl]

/-- A list that is not ARMED leaves the request to its exhaustion action (R133). -/
theorem State.serve_of_unarmed_read {l : ListOrdinal} (hread : e.req.access = .read) (hl : d.readList = some l)
    (h : s.answerLists[l].state ≠ .armed) : s.serve i e d = s.exhaust i e d s.answerLists[l].exhaustion := by
  rw [State.serve_of_read hread hl, State.serveRead]
  dsimp only
  split
  · next harmed => exact absurd harmed h
  all_goals rfl

theorem State.serve_of_unarmed_write {l : ListOrdinal} (hwrite : e.req.access ≠ .read) (hl : d.writeList = some l)
    (h : s.captureLists[l].state ≠ .armed) : s.serve i e d = s.exhaust i e d s.captureLists[l].exhaustion := by
  obtain ⟨data, hdata⟩ := Access.exists_write hwrite
  rw [State.serve_of_write hdata hl, State.serveWrite]
  dsimp only
  split
  · next harmed => exact absurd harmed h
  all_goals rfl

end

/-- Settles O14: the action of the decision, then for LIST the list of the request's kind and its exhaustion action. -/
theorem decisionCarriedOut : Obligations.DecisionCarriedOut := by
  refine ⟨fun s i e d he hd => ⟨fun hact => ?pass, fun hact => ?refuse, fun hact => ?trap⟩,
    fun s i e d he hd hact => ?list⟩
  case pass => rw [State.carryOut_of_pass he hd hact, State.forward_eq he]
  case refuse => rw [State.carryOut_of_refuse he hd hact, State.refuseEntry_eq he]
  case trap => rw [State.carryOut_of_trap he hd hact, State.hold_eq he]
  case list =>
    intro forwarded held refused
    have exhausted (x : Exhaustion) (hserve : s.serve i e d = s.exhaust i e d x) :
        (x = .pass → s.carryOut i = forwarded) ∧ (x = .trap → s.carryOut i = held) ∧
          (x = .refuse → s.carryOut i = refused) := by
      rw [State.carryOut_of_list he hd hact, hserve]
      refine ⟨?_, ?_, ?_⟩ <;> rintro rfl
      · exact State.forward_eq he
      · exact State.hold_eq he .listFallback d.deadlineCode
      · exact State.refuseEntry_eq he .list
    have unlisted (hserve : s.serve i e d = s.forward i) : s.carryOut i = forwarded := by
      rw [State.carryOut_of_list he hd hact, hserve]
      exact State.forward_eq he
    exact ⟨fun hread => ⟨fun hl => unlisted (State.serve_of_no_readList hread hl),
        fun l hl hidle => exhausted _ (State.serve_of_unarmed_read hread hl hidle)⟩,
      fun hwrite => ⟨fun hl => unlisted (State.serve_of_no_writeList hwrite hl),
        fun l hl hidle => exhausted _ (State.serve_of_unarmed_write hwrite hl hidle)⟩⟩

/-! ### The three ways a request is accepted (R7, R9, R62) -/

section
variable {s : State} {i : TransitIndex} {r : Request}

theorem State.countHitFor_eq (s : State) (r : Request) :
    s.countHitFor r = { s with windows := (s.countHitFor r).windows } := by
  unfold State.countHitFor
  split <;> rfl

/-- Step 1 of acceptance, the request counted (R7). -/
theorem State.enter_counted (s : State) (i : TransitIndex) (r : Request) (route : Route) :
    (s.countHitFor r).enter i (s.acceptedEntry r route) = s.acceptedAs i r route := by
  rw [State.countHitFor_eq]
  rfl

theorem State.accept_of_clash (h : s.clashes r = true) : s.accept i r = { s with
    entries := s.entries.set i (some { req := r, route := .done .error, decision := none, offset := none })
    acceptOrder := s.acceptOrder ++ [i]
    respQ := s.respQ ++ [i]
    head := none
    episode := false
    causes := { s.causes with tagClash := post s.causes.tagClash { master := r.master, tag := r.tag } } } := by
  have hentry : (s.enter i { req := r, route := .done .error, decision := none, offset := none }).entry i =
      some { req := r, route := .done .error, decision := none, offset := none } := State.entry_setEntry_self s i _
  rw [State.accept, if_pos h, State.acceptClash, State.complete_eq hentry]
  simp [State.enter, State.setEntry, State.postTagClash]

theorem State.accept_of_lineBlocked (hclash : ¬ s.clashes r = true) (hline : s.lineBlocked r = true) :
    s.accept i r = { s.acceptedAs i r .blocked with blocked := s.blocked ++ [i] } := by
  rw [State.accept, if_neg hclash, if_pos hline, ← State.enter_counted]
  rfl

theorem State.accept_of_direct (hclash : ¬ s.clashes r = true) (hline : ¬ s.lineBlocked r = true) :
    s.accept i r = (s.acceptedAs i r .issueWait).carryOut i := by
  rw [State.accept, if_neg hclash, if_neg hline, ← State.enter_counted]
  rfl

/-- Acceptance is one of the three. -/
theorem State.accept_cases (s : State) (i : TransitIndex) (r : Request) :
    (s.clashes r = true ∧ s.accept i r = { s with
      entries := s.entries.set i (some { req := r, route := .done .error, decision := none, offset := none })
      acceptOrder := s.acceptOrder ++ [i]
      respQ := s.respQ ++ [i]
      head := none
      episode := false
      causes := { s.causes with tagClash := post s.causes.tagClash { master := r.master, tag := r.tag } } }) ∨
    (¬ s.clashes r = true ∧ s.lineBlocked r = true ∧
      s.accept i r = { s.acceptedAs i r .blocked with blocked := s.blocked ++ [i] }) ∨
    (¬ s.clashes r = true ∧ ¬ s.lineBlocked r = true ∧
      s.accept i r = (s.acceptedAs i r .issueWait).carryOut i) := by
  by_cases hclash : s.clashes r = true
  · exact .inl ⟨hclash, State.accept_of_clash hclash⟩
  · by_cases hline : s.lineBlocked r = true
    · exact .inr (.inl ⟨hclash, hline, State.accept_of_lineBlocked hclash hline⟩)
    · exact .inr (.inr ⟨hclash, hline, State.accept_of_direct hclash hline⟩)

theorem State.entry_acceptedAs_self (s : State) (i : TransitIndex) (r : Request) (route : Route) :
    (s.acceptedAs i r route).entry i = some (s.acceptedEntry r route) := State.entry_setEntry_self s i _

theorem State.entry_acceptedAs_ne {j : TransitIndex} (hj : j ≠ i) (route : Route) :
    (s.acceptedAs i r route).entry j = s.entry j := State.entry_setEntry_ne s (Ne.symm hj) _

/-! ### What acceptance keeps -/

/-- The parts of the state that no acceptance touches: the arbiter, the contexts, the timebase, the inputs, the link and the
queue of commands (R7). -/
structure Outside where
  arb      : Arbitration
  ticket   : BitVec 16
  contexts : Vector (Option OpenContext) 4
  enabled  : BitVec 10
  gate     : Gate
  now      : Nat
  preset   : Bool
  hreset   : Bool
  sdOut    : Option Byte
  pending  : List Instr
  link     : LinkState

def State.outside (s : State) : Outside :=
  { arb := s.arb, ticket := s.ticket, contexts := s.contexts, enabled := s.enabled, gate := s.gate, now := s.now,
    preset := s.preset, hreset := s.hreset, sdOut := s.sdOut, pending := s.pending, link := s.link }

theorem State.accept_outside (s : State) (i : TransitIndex) (r : Request) : (s.accept i r).outside = s.outside := by
  rcases s.accept_cases i r with ⟨-, h⟩ | ⟨-, -, h⟩ | ⟨-, -, h⟩ <;> rw [h]
  · rfl
  · rfl
  · simp [State.outside, State.acceptedAs]

/-- What every acceptance leaves at the H-port and in the acceptance order (R3, R7). -/
theorem State.accept_entered (s : State) (i : TransitIndex) (r : Request) :
    (s.accept i r).acceptOrder = s.acceptOrder ++ [i] ∧ (s.accept i r).head = none ∧
      (s.accept i r).episode = false ∧ ∃ e, (s.accept i r).entry i = some e ∧ e.req = r := by
  rcases s.accept_cases i r with ⟨-, h⟩ | ⟨-, -, h⟩ | ⟨-, -, h⟩ <;> rw [h]
  · exact ⟨rfl, rfl, rfl, _, State.entry_setEntry_self s i _, rfl⟩
  · exact ⟨rfl, rfl, rfl, _, State.entry_setEntry_self s i _, rfl⟩
  · refine ⟨State.carryOut_acceptOrder _ i, State.carryOut_head _ i, State.carryOut_episode _ i, ?_⟩
    have hself := State.entry_acceptedAs_self s i r .issueWait
    rcases (s.acceptedAs i r .issueWait).carryOut_entry_self i with hsame | ⟨route, hroute⟩
    · exact ⟨_, hsame.trans hself, rfl⟩
    · rw [hroute, hself]
      exact ⟨_, rfl, rfl⟩

/-! ### The row ACCEPTANCE -/

/-- With no head request left, the end of an event is QUIESCE's test alone. -/
theorem State.settle_of_no_head (h : s.head = none) : s.settle = s.quiesceTest :=
  State.openEpisode_of_no_head _ ((State.quiesceTest_head s).trans h)

theorem State.acceptHead_of_acceptable (hacc : s.acceptable = some r) (hfree : s.IsLowestFree i) :
    s.acceptHead = (s.accept i r).quiesceTest := by
  rw [← State.settle_of_no_head (s.accept_head i r), State.acceptHead, hacc, State.lowestFree_eq_some.2 hfree]

/-- An acceptable head request finds a FREE entry (R5). -/
theorem State.exists_lowestFree (hacc : s.acceptable = some r) : ∃ i, s.IsLowestFree i := by
  obtain ⟨-, -, hnone⟩ := State.acceptable_eq_some.1 hacc
  obtain ⟨-, hfree, -⟩ := State.obstacle_eq_none_iff.1 hnone
  obtain ⟨i, hi⟩ := Option.ne_none_iff_exists'.1 (mt Option.isNone_iff_eq_none.2 (State.exists_free_iff.1 hfree))
  exact ⟨i, State.lowestFree_eq_some.1 hi⟩

theorem exec_acceptance_of_none (h : s.acceptable = none) : exec .acceptance s = .next s := by
  simp [exec, execAcceptance, State.acceptHead, h]

/-- QUIESCE is not EXECUTING while a head request is acceptable, since the gate is open (R5, R167): the acceptance completes
nothing. -/
theorem exec_acceptance_of_sound (hsound : s.LinkSound) (hacc : s.acceptable = some r) (hfree : s.IsLowestFree i) :
    exec .acceptance s = .next (s.accept i r) := by
  obtain ⟨-, -, hnone⟩ := State.acceptable_eq_some.1 hacc
  obtain ⟨hopen, -⟩ := State.obstacle_eq_none_iff.1 hnone
  have hlink : (s.accept i r).link = s.link := congrArg Outside.link (s.accept_outside i r)
  refine congrArg Host.Outcome.next ((State.acceptHead_of_acceptable hacc hfree).trans ?_)
  refine State.quiesceTest_eq_self _ fun hdue => ?_
  obtain ⟨due, hdue⟩ := Option.isSome_iff_exists.1 hdue
  obtain ⟨L, started, hexecuting, -⟩ := State.quiesceDue_cases hdue
  rw [hlink] at hexecuting
  simp only [State.LinkSound, hexecuting, hopen] at hsound
  cases hsound.2

end

/-- Settles O10: the lowest FREE entry, what every acceptance leaves, and QUIESCE's test at its end. -/
theorem acceptanceTakesTheLowestFreeEntry : Obligations.AcceptanceTakesTheLowestFreeEntry := by
  refine ⟨fun s r hacc => ?_, fun s h => exec_acceptance_of_none h⟩
  obtain ⟨i, hfree⟩ := State.exists_lowestFree hacc
  obtain ⟨horder, hhead, hepisode, e, he, hreq⟩ := s.accept_entered i r
  obtain ⟨harb, hticket, hcontexts, henabled, hgate, hnow, hpreset, hhreset, hsdOut, hpending, hlink⟩ :=
    Outside.mk.inj (s.accept_outside i r)
  refine ⟨i, e, (s.accept i r).quiesceTest, hfree, ?exec, ?entry, hreq, ?acceptOrder, ?head, ?episode, ?others, ?arb,
    ?ticket, ?contexts, ?enabled, ?gate, ?now, ?preset, ?hreset, ?sdOut, ?pending, fun hdue => ?link⟩
  case exec => exact congrArg Host.Outcome.next (State.acceptHead_of_acceptable hacc hfree)
  case entry => exact (State.entry_congr (State.quiesceTest_entries _) i).trans he
  case others =>
    exact fun j hj => (State.entry_congr (State.quiesceTest_entries _) j).trans (s.accept_entry_ne (Ne.symm hj) r)
  case link =>
    have hnone : (s.accept i r).quiesceDue = none := by rwa [State.quiesceDue, hlink]
    rw [State.quiesceTest_eq_self _ (by simp [hnone]), hlink]
  all_goals simpa

/-- Settles O11: of the three ways, the two whose decision is not carried out. -/
theorem acceptanceOfAClashOrALineBlockedRequest : Obligations.AcceptanceOfAClashOrALineBlockedRequest := by
  refine ⟨fun s r i hsound hacc hfree hclash => ?_, fun s r i hsound hacc hfree hblocked => ?_⟩
  · rw [exec_acceptance_of_sound hsound hacc hfree, State.accept_of_clash (State.prospect_eq_clash_iff.1 hclash)]
  · obtain ⟨hclash, hline⟩ := State.prospect_eq_blocked_iff.1 hblocked
    rw [exec_acceptance_of_sound hsound hacc hfree, State.accept_of_lineBlocked hclash hline]

/-- Settles O12: of the three ways, the one that carries out the decision. -/
theorem acceptanceCarriesOutTheDecision : Obligations.AcceptanceCarriesOutTheDecision := by
  intro s r i hsound hacc hfree hprospect
  have hclash : ¬ s.clashes r = true := fun h => by
    rw [State.prospect_eq_clash_iff.2 h] at hprospect
    simp at hprospect
  have hline : ¬ s.lineBlocked r = true := fun h => by
    rw [State.prospect_eq_blocked_iff.2 ⟨hclash, h⟩] at hprospect
    simp at hprospect
  have he := State.entry_acceptedAs_self s i r .issueWait
  rw [exec_acceptance_of_sound hsound hacc hfree, State.accept_of_direct hclash hline]
  refine ⟨fun hact => ?pass, fun hact => ?refuse, fun hact => ?trap, fun _ => rfl⟩
  case pass =>
    rw [State.carryOut_of_pass he rfl hact, State.forward_eq he]
    simp [State.acceptedAs, State.acceptedEntry]
  case refuse =>
    rw [State.carryOut_of_refuse he rfl hact, State.refuseEntry_eq he]
    simp [State.acceptedAs, State.acceptedEntry]
  case trap =>
    rw [State.carryOut_of_trap he rfl hact, State.hold_eq he]
    simp [State.acceptedAs, State.acceptedEntry]

end Sys2Proof.Machine

namespace Sys2Proof.Machine

-- One proof at a time: proofs in parallel wait for one another on threads of their own, each with its stack.
set_option Elab.async false

/-! ### The tests at the end of an event and the tables -/

/-- The tables of the part agree, and its contexts are nested as R84 says. -/
def State.TablesSound (s : State) : Prop := s.Consistent ∧ s.NestedDistinct

section
variable {soft : Prop} {s t : State} {i : TransitIndex}

theorem State.TablesSound.of_tables (h : s.TablesSound) (ht : t.tables = s.tables) : t.TablesSound :=
  ⟨h.1.of_tables ht, h.2.of_tables ht⟩

theorem State.TablesSound.agree (h : s.TablesSound) : s.Agree := State.consistent_iff.1 h.1

theorem State.TablesSound.of_agree (h : s.TablesSound) (hagree : t.Agree) (hcontexts : t.contexts = s.contexts)
    (harb : t.arb = s.arb) : t.TablesSound := by
  refine ⟨State.consistent_iff.2 hagree, ?_⟩
  have hnested := State.nestedDistinct_iff.1 h.2
  rw [State.nestedDistinct_iff, harb]
  intro hmode c c' o o' ho ho'
  rw [State.context, hcontexts] at ho ho'
  exact hnested hmode c c' o o' ho ho'

@[simp] theorem State.openEpisode_tables (s : State) : s.openEpisode.tables = s.tables := by
  simp [State.tables]

@[simp] theorem State.settle_tables (s : State) : s.settle.tables = s.tables :=
  s.quiesceTest.openEpisode_tables.trans (State.Quiet.quiesceTest s).tables

theorem State.TablesSound.settle (h : s.TablesSound) : s.settle.TablesSound := h.of_tables s.settle_tables

theorem State.TablesSound.openEpisode (h : s.TablesSound) : s.openEpisode.TablesSound := h.of_tables s.openEpisode_tables

theorem State.startQuiesce_tables (s : State) : s.startQuiesce.tables = s.tables := by
  unfold State.startQuiesce
  dsimp only
  split <;> simp only [State.openEpisode_tables] <;> rfl

/-! ### The departure of a held entry, with its request replaced or not (R52, R107) -/

theorem State.TablesSound.depart {sl : Slot} {e : Entry} (h : s.TablesSound) (hsl : sl ∈ s.pool)
    (he : s.entry sl.entry = some e) (dest : Departure) : (s.depart sl e dest).TablesSound :=
  ⟨State.consistent_iff.2 (h.agree.depart hsl he dest), h.2.depart he dest⟩

/-- Replacing the access and the lanes of an entry's request is no change to its route, its chain or its decision (R107). -/
theorem State.TablesSound.rewrite {e : Entry} (h : s.TablesSound) (he : s.entry i = some e) (lanes : Lanes) (data : Word) :
    (s.rewrite i e lanes data).TablesSound := by
  have hself : (s.rewrite i e lanes data).entry i =
      some { e with req := { e.req with access := .write data, lanes := lanes } } := State.entry_setEntry_self s i _
  have hother : ∀ j, j ≠ i → (s.rewrite i e lanes data).entry j = s.entry j := fun j hj =>
    State.entry_setEntry_ne s (Ne.symm hj) _
  have same {α : Type} (f : Option Entry → α)
      (hf : f (some { e with req := { e.req with access := .write data, lanes := lanes } }) = f (some e))
      (j : TransitIndex) : f ((s.rewrite i e lanes data).entry j) = f (s.entry j) := by
    by_cases hj : j = i
    · rw [hj, hself, he, hf]
    · rw [hother j hj]
  refine h.of_agree (h.agree.of_same_routes (same _ rfl) (same _ rfl)
    (same (fun x => x.bind fun x => x.decision.map Decision.cls) rfl) (fun j x hx => ?_) rfl rfl rfl rfl rfl
    (f := id) (List.map_id _).symm (fun _ => rfl) fun _ => rfl) rfl rfl
  by_cases hj : j = i
  · subst hj
    rw [hself] at hx
    cases hx
    exact ⟨e, he, rfl, rfl⟩
  · exact ⟨x, hother j hj ▸ hx, rfl, rfl⟩

/-! ### The slot records and the contexts (R50, R87) -/

theorem State.TablesSound.updateSlot (h : s.TablesSound) {f : Slot → Slot} (hentry : ∀ x, (f x).entry = x.entry)
    (hcontext : ∀ x, (f x).context = x.context) : (s.updateSlot i f).TablesSound := by
  refine h.of_agree (h.agree.of_same_routes (fun _ => rfl) (fun _ => rfl) (fun _ => rfl) (fun j x hx => ⟨x, hx, rfl, rfl⟩)
    rfl rfl rfl rfl rfl (State.updateSlot_pool s i f) (fun x => ?_) fun x => ?_) rfl rfl
  · split
    · exact hentry x
    · rfl
  · split
    · exact hcontext x
    · rfl

theorem State.context_openContext (c c' : ContextIndex) (k : ServiceClass) : (s.openContext c i k).context c' =
    if c = c' then some { ticket := s.ticket + 1, entry := i, cls := k } else s.context c' := by
  simp only [State.context, State.openContext, State.setContext_contexts, Fin.getElem_fin, Vector.getElem_set, Fin.ext_iff]
  rfl

/-- A slot record after TAKE has opened context c on entry i (R46, R87). -/
def Slot.taken (i : TransitIndex) (c : ContextIndex) (x : Slot) : Slot :=
  if x.entry = i then { x with context := some c } else x

theorem State.openContext_taken (s : State) (c : ContextIndex) (i : TransitIndex) (k : ServiceClass) :
    (s.openContext c i k).pool = s.pool.map (Slot.taken i c) := rfl

theorem Slot.taken_entry (c : ContextIndex) (x : Slot) : (x.taken i c).entry = x.entry := by
  unfold Slot.taken
  split <;> rfl

/-- TAKE opens a FREE context on a WAITING record. -/
theorem State.AgreeBut.openContext {c : ContextIndex} {sl : Slot} {k : ServiceClass} (h : s.Agree)
    (hfree : s.context c = none) (hmem : sl ∈ s.pool) (hwaiting : sl.context = none)
    (hclass : s.classOf sl.entry = some k) : (s.openContext c sl.entry k).Agree := by
  have hmap : (s.openContext c sl.entry k).pool.map Slot.entry = s.pool.map Slot.entry := by
    rw [State.openContext_taken, List.map_map]
    exact List.map_congr_left fun x _ => Slot.taken_entry c x
  have hother : ∀ x : Slot, x.entry ≠ sl.entry → x.taken sl.entry c = x := fun x hx => if_neg hx
  refine { h with held := hmap ▸ h.held, poolFit := by rw [State.openContext_taken, List.length_map]; exact h.poolFit,
                  opened := ?opened, taken := ?taken }
  case opened =>
    intro c' o ho
    rw [State.context_openContext] at ho
    split at ho
    · next hc =>
      cases ho
      refine ⟨sl.taken sl.entry c, List.mem_map_of_mem hmem, Slot.taken_entry c sl, ?_, hclass⟩
      rw [Slot.taken, if_pos rfl, hc]
    · obtain ⟨x, hx, hxo, hxc, hcls⟩ := h.opened c' o ho
      have hne : x.entry ≠ sl.entry := fun heq => by
        rw [h.slot_unique hx hmem heq, hwaiting] at hxc
        cases hxc
      exact ⟨x, List.mem_map.2 ⟨x, hx, hother x hne⟩, hxo, hxc, hcls⟩
  case taken =>
    intro y hy c' hc'
    rw [State.openContext_taken] at hy
    obtain ⟨x, hx, rfl⟩ := List.mem_map.1 hy
    rw [State.context_openContext, Slot.taken_entry]
    by_cases hxs : x.entry = sl.entry
    · rw [Slot.taken, if_pos hxs] at hc'
      cases hc'
      exact ⟨_, if_pos rfl, hxs.symm⟩
    · rw [hother x hxs] at hc'
      obtain ⟨o, ho, hox⟩ := h.taken x hx c' hc'
      refine ⟨o, ?_, hox⟩
      rw [if_neg, ho]
      rintro rfl
      rw [hfree] at ho
      cases ho

/-- In NESTED mode a class is eligible only where it ranks before that of every OPEN context, so it is none of theirs
(R83, R84). -/
theorem State.NestedDistinct.openContext {c : ContextIndex} {k : ServiceClass} (h : s.NestedDistinct)
    (heligible : s.classEligible k = true) : (s.openContext c i k).NestedDistinct := by
  rw [State.nestedDistinct_iff] at h ⊢
  intro hmode c₁ c₂ o₁ o₂ h₁ h₂ hcls
  have hmode' : s.arb.nesting = .nested := hmode
  have hnew : ∀ c' o, s.context c' = some o → k ≠ o.cls := by
    obtain ⟨-, hflat | hless⟩ := State.classEligible_iff.1 heligible
    · rw [hmode'] at hflat
      cases hflat
    · exact fun c' o ho hk => absurd (hless c' o ho) (by simp [hk])
  rw [State.context_openContext] at h₁ h₂
  split at h₁
  · next hc₁ =>
    cases h₁
    split at h₂
    · next hc₂ => rw [← hc₁, hc₂]
    · exact absurd hcls (hnew c₂ o₂ h₂)
  · split at h₂
    · cases h₂
      exact absurd hcls.symm (hnew c₁ o₁ h₁)
    · exact h hmode' c₁ c₂ o₁ o₂ h₁ h₂ hcls

/-! ### The resets (R18, R21) -/

/-- The route that SOFT RESET gives an entry of this route (R21). -/
def Route.afterSoftReset : Route → Route
  | .held => .done .error
  | .blocked => .issueWait
  | r => r

theorem State.routeAt_softReset (h : t.entries = s.entries.map softResetEntry) (i : TransitIndex) :
    t.routeAt i = (s.routeAt i).map Route.afterSoftReset := by
  rw [State.routeAt, State.routeAt, State.entry_of_map h, softResetEntry, Option.map_map, Option.map_map]
  congr 1
  funext e
  obtain ⟨req, route, decision, offset⟩ := e
  cases route <;> rfl

/-- SOFT RESET empties the pool into the response queue, and the blocked list into the issue queue (R21, R58, R75). -/
theorem State.AgreeBut.softReset (h : s.Agree) (hentries : t.entries = s.entries.map softResetEntry)
    (horder : t.acceptOrder = s.acceptOrder) (hissue : t.issueQ = s.issueQ ++ s.blocked)
    (hresp : t.respQ = s.respQ ++ s.pool.map Slot.entry) (hpool : t.pool = []) (hblocked : t.blocked = [])
    (hcontexts : ∀ c, t.context c = none) : t.Agree := by
  have hroute := State.routeAt_softReset hentries
  have hnone : ∀ i, t.routeAt i ≠ some .held ∧ t.routeAt i ≠ some .blocked := by
    intro i
    rw [hroute]
    cases hr : s.routeAt i with
    | none => simp
    | some r => cases r <;> simp [Route.afterSoftReset]
  refine { accept := ?accept, issue := ?issue, resp := ?resp, blocked := ?blocked, held := ?held,
           blockedFit := by simp [hblocked], poolFit := by simp [hpool],
           decided := ?decided, behind := fun j hj => absurd hj (hnone j).2,
           apart := fun j k hj => absurd hj (hnone j).1,
           opened := fun c o ho => (by rw [hcontexts] at ho; cases ho),
           taken := fun sl hsl => (by rw [hpool] at hsl; cases hsl) }
  case accept =>
    rw [horder]
    refine h.accept.congr fun j => ?_
    rw [hroute]
    cases hr : s.routeAt j with
    | none => simp
    | some r => cases r <;> simp [Route.afterSoftReset]
  case issue =>
    rw [hissue]
    refine h.issue.append (h.blocked ▸ h.accept.nodup.filter _) (fun j hj => by simp [h.mem_blocked.1 hj]) fun j => ?_
    rw [hroute, h.mem_blocked]
    cases hr : s.routeAt j with
    | none => simp
    | some r => cases r <;> simp [Route.afterSoftReset]
  case resp =>
    rw [hresp]
    refine h.resp.append h.held.nodup (fun j hj => by simp [(h.held.mem j).1 hj, Route.isDone]) fun j => ?_
    rw [hroute, h.held.mem]
    cases hr : s.routeAt j with
    | none => simp
    | some r => cases r <;> simp [Route.afterSoftReset, Route.isDone]
  case blocked => simp [hblocked, hnone]
  case held => exact ⟨by simp [hpool], fun i => by simp [hpool, hnone]⟩
  case decided =>
    intro i e he hr
    have hi := State.routeAt_of_entry he
    rcases hr with hr | hr
    · exact absurd (hr ▸ hi) (hnone i).1
    · exact absurd (hr ▸ hi) (hnone i).2

theorem State.TablesSound.of_softReset (h : s.TablesSound) : (cmdSoftReset s).1.TablesSound := by
  refine State.TablesSound.openEpisode ⟨State.consistent_iff.2 ?_, ?_⟩
  · exact h.agree.softReset rfl rfl rfl rfl rfl rfl fun c => Vector.getElem_replicate _
  · rw [State.nestedDistinct_iff]
    intro _ c _ o _ ho
    rw [State.context, Fin.getElem_fin, Vector.getElem_replicate] at ho
    cases ho

/-- Host reset leaves no entry but ORPHANs (R18). -/
theorem State.routeAt_hostReset (h : t.entries = s.entries.map resetEntry) (i : TransitIndex) :
    t.routeAt i = none ∨ t.routeAt i = some .orphan := by
  rw [State.routeAt, State.entry_of_map h]
  cases he : s.entry i with
  | none => exact .inl rfl
  | some e =>
    by_cases hmem : e.route = .inMemory
    · rw [resetEntry_of_inMemory hmem]; exact .inr rfl
    · by_cases horphan : e.route = .orphan
      · rw [resetEntry_of_orphan horphan]; exact .inr (congrArg some horphan)
      · rw [resetEntry_of_freed hmem horphan]; exact .inl rfl

/-- A part with no entry but ORPHANs and with everything empty. -/
theorem State.TablesSound.of_empty (hroute : ∀ i, s.routeAt i = none ∨ s.routeAt i = some .orphan)
    (horder : s.acceptOrder = []) (hissue : s.issueQ = []) (hresp : s.respQ = []) (hpool : s.pool = [])
    (hblocked : s.blocked = []) (hcontexts : ∀ c, s.context c = none) : s.TablesSound := by
  have hnot : ∀ i r, s.routeAt i = some r → r = .orphan := by
    intro i r hr
    rcases hroute i with hi | hi
    · rw [hi] at hr; cases hr
    · rw [hi] at hr; cases hr; rfl
  have empty {p : TransitIndex → Prop} (hp : ∀ i, ¬ p i) : Lists [] p :=
    ⟨List.nodup_nil, fun i => by simp [hp i]⟩
  refine ⟨State.consistent_iff.2 ?_, ?_⟩
  · refine { accept := horder ▸ empty fun i => ?accept, issue := hissue ▸ empty fun i hi => ?issue,
             resp := hresp ▸ empty fun i => ?resp, blocked := by simp [horder, hblocked],
             held := by rw [hpool]; exact empty fun i hi => (nomatch hnot i _ hi), blockedFit := by simp [hblocked],
             poolFit := by simp [hpool], decided := fun i e he hr => ?decided,
             behind := fun j hj => (nomatch hnot j _ hj), apart := fun j _ hj => (nomatch hnot j _ hj),
             opened := fun c o ho => (by rw [hcontexts] at ho; cases ho),
             taken := fun sl hsl => (by rw [hpool] at hsl; cases hsl) }
    case accept => rcases hroute i with hi | hi <;> simp [hi]
    case issue => exact nomatch hnot i _ hi
    case resp => rcases hroute i with hi | hi <;> simp [hi, Route.isDone]
    case decided =>
      have horphan := hnot i _ (State.routeAt_of_entry he)
      rcases hr with hr | hr <;> rw [horphan] at hr <;> cases hr
  · rw [State.nestedDistinct_iff]
    intro _ c _ o _ ho
    rw [hcontexts] at ho
    cases ho

theorem State.TablesSound.hostReset (s : State) : s.hostResetEvent.TablesSound := by
  refine State.TablesSound.settle (.of_empty ?_ rfl rfl rfl rfl rfl fun c => Vector.getElem_replicate _)
  exact State.routeAt_hostReset rfl

theorem State.TablesSound.of_reset (ht : t.tables = State.reset.tables) : t.TablesSound := by
  refine State.TablesSound.of_tables (s := State.reset) (.of_empty (fun i => ?_) rfl rfl rfl rfl rfl fun c => ?_) ht
  · exact .inl (State.routeAt_eq_none.2 (Vector.getElem_replicate _))
  · exact Vector.getElem_replicate _

/-! ### The framed commands -/

theorem CommandEffect.tablesSound (h : CommandEffect soft s t) (hs : s.TablesSound) : t.TablesSound := by
  cases h with
  | quiet h => exact hs.of_tables h.tables
  | retested htables _ => exact (hs.of_tables htables).openEpisode
  | arbitration a hmode =>
    refine ⟨hs.1, State.nestedDistinct_iff.2 fun hnested c c' o o' ho => ?_⟩
    by_cases hsame : a.nesting = s.arb.nesting
    · exact State.nestedDistinct_iff.1 hs.2 (hsame ▸ hnested) c c' o o' ho
    · have hopen : s.context c = some o := ho
      rw [State.openContexts_eq_nil_iff.1 (hmode hsame) c] at hopen
      cases hopen
  | opened hfree hmem hwaiting hclass heligible =>
    exact ⟨State.consistent_iff.2 (hs.agree.openContext hfree hmem hwaiting hclass), hs.2.openContext heligible⟩
  | extended i due => exact hs.updateSlot (fun _ => rfl) fun _ => rfl
  | departed dest hmem he => exact (hs.depart hmem he dest).openEpisode
  | @replaced sl e lanes data hmem he =>
    exact ((hs.rewrite he lanes data).depart (e := { e with req := { e.req with access := .write data, lanes := lanes } })
      hmem (State.entry_setEntry_self s sl.entry _) .issue).openEpisode
  | softReset _ => exact hs.of_softReset

theorem Commanded.tablesSound (h : Commanded soft s t) (hs : s.TablesSound) : t.TablesSound := by
  have hidle : ({ s with link := .idle } : State).TablesSound := hs.of_tables rfl
  cases h with
  | answered heffect hquiet _ => exact (heffect.tablesSound hidle).of_tables hquiet.tables
  | quiesced hquiet _ => exact hidle.of_tables (hquiet.tables.trans (State.startQuiesce_tables _))

end

end Sys2Proof.Machine

namespace Sys2Proof.Machine

-- One proof at a time: proofs in parallel wait for one another on threads of their own, each with its stack.
set_option Elab.async false

/-! ### A decision that holds its request was foreseen (R6) -/

section
variable {s : State} {i : TransitIndex} {x : Entry} {d : Decision}

theorem State.routeAt_setRoute_self (he : s.entry i = some x) (r : Route) : (s.setRoute i r).routeAt i = some r :=
  State.routeAt_of_entry (State.entry_setRoute_self he r)

theorem State.exhaust_trap_of_held (he : s.entry i = some x) {a : Exhaustion}
    (h : (s.exhaust i x d a).routeAt i = some .held) : a = .trap := by
  cases a with
  | trap => rfl
  | pass => cases (State.routeAt_setRoute_self he _).symm.trans h
  | refuse => cases (State.routeAt_setRoute_self he (.done .error)).symm.trans h

/-- A decision carried out makes its entry HELD only where the test of R6 says so. -/
theorem State.wouldHold_of_held (he : s.entry i = some x) (hd : x.decision = some d)
    (h : (s.carryOut i).routeAt i = some .held) : s.wouldHold x.req d = true := by
  rw [State.wouldHold_iff]
  cases hact : d.action with
  | trap => exact .inl rfl
  | pass =>
    rw [State.carryOut_of_pass he hd hact] at h
    cases (State.routeAt_setRoute_self he _).symm.trans h
  | refuse =>
    rw [State.carryOut_of_refuse he hd hact] at h
    cases (State.routeAt_setRoute_self he (.done .error)).symm.trans h
  | list =>
    refine .inr ⟨rfl, State.fallsBack_iff.2 ?_⟩
    by_cases hread : x.req.access = .read
    · refine .inl ⟨hread, ?_⟩
      cases hl : d.readList with
      | none =>
        rw [State.carryOut_of_list he hd hact, State.serve_of_no_readList hread hl] at h
        cases (State.routeAt_setRoute_self he _).symm.trans h
      | some l =>
        refine ⟨l, rfl, ?_⟩
        by_cases harmed : s.answerLists[l].state = .armed
        · rw [State.carryOut_of_armed_read he hd hact hread hl harmed] at h
          simp [State.routeAt, State.entry] at h
        · rw [State.carryOut_of_list he hd hact, State.serve_of_unarmed_read hread hl harmed] at h
          exact ⟨harmed, State.exhaust_trap_of_held he h⟩
    · refine .inr ⟨hread, ?_⟩
      cases hl : d.writeList with
      | none =>
        rw [State.carryOut_of_list he hd hact, State.serve_of_no_writeList hread hl] at h
        cases (State.routeAt_setRoute_self he _).symm.trans h
      | some l =>
        refine ⟨l, rfl, ?_⟩
        by_cases harmed : s.captureLists[l].state = .armed
        · obtain ⟨data, hdata⟩ := Access.exists_write hread
          rw [State.carryOut_of_armed_write he hd hact hdata hl harmed] at h
          simp [State.routeAt, State.entry] at h
        · rw [State.carryOut_of_list he hd hact, State.serve_of_unarmed_write hread hl harmed] at h
          exact ⟨harmed, State.exhaust_trap_of_held he h⟩

end

/-! ### Each event and the tables -/

section
variable {soft : Prop} {s t : State} {i : TransitIndex}

/-- A line-blocked request has a HELD entry of its master on its line before it (R62, R64). -/
theorem State.AgreeBut.held_of_lineBlocked {r : Request} (h : s.Agree) (hline : s.lineBlocked r = true) :
    ∃ k, s.routeAt k = some .held ∧ s.chainOf k = some (r.master, lineOf r.addr) := by
  obtain ⟨j, e, he, hroute, hmaster, haddr⟩ := State.lineBlocked_iff.1 hline
  have hchain : s.chainOf j = some (r.master, lineOf r.addr) := by
    rw [State.chainOf_of_entry he, hmaster, haddr]
  rcases hroute with hheld | hblocked
  · exact ⟨j, hheld ▸ State.routeAt_of_entry he, hchain⟩
  · obtain ⟨k, hk, hkj, -⟩ := h.behind j (hblocked ▸ State.routeAt_of_entry he) id
    exact ⟨k, hk, hkj.trans hchain⟩

theorem State.chain_ne_of_not_lineBlocked {r : Request} (hline : ¬ s.lineBlocked r = true) (k : TransitIndex)
    (hk : s.routeAt k = some .held) : s.chainOf k ≠ some (r.master, lineOf r.addr) := by
  intro hchain
  obtain ⟨e, he, hroute⟩ := State.exists_entry_of_routeAt hk
  rw [State.chainOf_of_entry he, Option.some.injEq, Prod.mk.injEq] at hchain
  exact hline (State.lineBlocked_iff.2 ⟨k, e, he, .inl hroute, hchain.1, hchain.2⟩)

/-- Acceptance keeps the tables in agreement: R5 has found room for the hold or the block that it may bring. -/
theorem State.AgreeBut.acceptance {r : Request} (h : s.Agree) (hacc : s.acceptable = some r) (hfree : s.entry i = none) :
    (s.accept i r).Agree := by
  obtain ⟨-, -, hnone⟩ := State.acceptable_eq_some.1 hacc
  obtain ⟨-, -, hblockedRoom, hheldRoom⟩ := State.obstacle_eq_none_iff.1 hnone
  rcases s.accept_cases i r with ⟨-, heq⟩ | ⟨hclash, hline, heq⟩ | ⟨hclash, hline, heq⟩ <;> rw [heq]
  · refine h.accepted (route := .done .error) (x := { req := r, route := .done .error, decision := none, offset := none })
      (record := s.heldSlot i .unmatched) hfree ⟨State.entry_setEntry_self s i _,
        fun j hj => State.entry_setEntry_ne s (Ne.symm hj) _, rfl, rfl, rfl, ⟨rfl, rfl⟩, rfl⟩ rfl rfl ?_ ?_ ?_ ?_ <;> simp
  · refine h.accepted (route := .blocked) (x := s.acceptedEntry r .blocked) (record := s.heldSlot i .unmatched) hfree
      ⟨State.entry_setEntry_self s i _, fun j hj => State.entry_setEntry_ne s (Ne.symm hj) _, rfl, rfl, rfl, ⟨rfl, rfl⟩,
        rfl⟩ rfl rfl (by simp) (fun _ => rfl) (fun _ => ?_) (by simp)
    exact ⟨hblockedRoom (State.prospect_eq_blocked_iff.2 ⟨hclash, hline⟩), h.held_of_lineBlocked hline⟩
  · have he := State.entry_acceptedAs_self s i r .issueWait
    obtain ⟨route, hc⟩ := State.carryOut_carries he rfl
    have hp : s.Placed ((s.acceptedAs i r .issueWait).carryOut i) i (s.acceptedEntry r .issueWait) route
        ((s.acceptedAs i r .issueWait).heldSlot i (s.decisionFor r)) := State.placed_of_carries hc
      (fun j hj => (State.carryOut_entry_ne _ (Ne.symm hj)).trans (State.entry_acceptedAs_ne hj .issueWait)) rfl rfl rfl
      (State.carryOut_contexts _ i)
    have hcarried := State.carryOut_route he rfl hp.routeAt_self
    refine h.accepted hfree hp (State.carryOut_acceptOrder _ i) ?_ ?_ (fun _ => rfl) ?_ fun hheld => ?_
    · rw [if_neg]
      · exact State.carryOut_blocked _ i
      · rintro rfl; rcases hcarried with h' | h' | h' <;> cases h'
    · rintro rfl; rcases hcarried with h' | h' | h' <;> cases h'
    · rintro rfl; rcases hcarried with h' | h' | h' <;> cases h'
    · have hwould : s.wouldHold r (s.decisionFor r) = true :=
        State.wouldHold_of_held he rfl (hheld ▸ hp.routeAt_self)
      exact ⟨hheldRoom (State.prospect_eq_hold_iff.2 ⟨hclash, hline, hwould⟩), State.chain_ne_of_not_lineBlocked hline⟩

/-- The part after the head of the issue queue has gone to memory (R14). -/
def State.issueHead (s : State) (i : TransitIndex) (rest : List TransitIndex) : State :=
  { s.setRoute i .inMemory with issueQ := rest }

/-- The part after the head of the response queue has been taken (R17). -/
def State.freeHead (s : State) (i : TransitIndex) (rest : List TransitIndex) : State :=
  { s.setEntry i none with respQ := rest, acceptOrder := s.acceptOrder.filter fun j => decide (j ≠ i) }

/-- Issue, from ISSUE_WAIT (R14). -/
theorem State.AgreeBut.issued {rest : List TransitIndex} (h : s.Agree) (hq : s.issueQ = i :: rest) :
    (s.issueHead i rest).Agree := by
  have hissue := h.issue
  rw [hq] at hissue
  have hi : s.routeAt i = some .issueWait := (hissue.mem i).1 List.mem_cons_self
  obtain ⟨e, he, -⟩ := State.exists_entry_of_routeAt hi
  have hself : (s.issueHead i rest).routeAt i = some .inMemory :=
    State.routeAt_setRoute_self he _
  have hother : ∀ j, j ≠ i → (s.issueHead i rest).entry j = s.entry j :=
    fun j hj => State.entry_setEntry_ne s (Ne.symm hj) _
  refine h.of_reroute hother (by simp [hi]) (by simp [hself]) rfl rfl rfl (keep := fun _ => true)
    (List.filter_eq_self.2 fun _ _ => rfl).symm (fun _ _ => rfl) (h.accept.congr fun j => ?_) (hissue.tail (fun j hj => ?_) (by simp [hself])) (h.resp.congr fun j => ?_)
  · by_cases hj : j = i
    · simp [hj, hself, hi]
    · rw [State.routeAt_congr (hother j hj)]
  · rw [State.routeAt_congr (hother j hj)]
  · by_cases hj : j = i
    · simp [hj, hself, hi, Route.isDone]
    · rw [State.routeAt_congr (hother j hj)]

/-- A response completes an IN_MEMORY entry (R15). -/
theorem State.AgreeBut.completed (h : s.Agree) (hi : s.routeAt i = some .inMemory) (r : Response) :
    (s.complete i r).Agree := by
  obtain ⟨e, he, -⟩ := State.exists_entry_of_routeAt hi
  have hself : (s.complete i r).routeAt i = some (.done r) := State.routeAt_setRoute_self he _
  have hother : ∀ j, j ≠ i → (s.complete i r).entry j = s.entry j :=
    fun j hj => State.entry_setEntry_ne s (Ne.symm hj) _
  have hresp := h.resp.append (extra := [i]) (p' := fun j => ((s.complete i r).routeAt j).any Route.isDone = true)
    (List.nodup_singleton i) (by simp [hi, Route.isDone]) fun j => by
      by_cases hj : j = i
      · simp [hj, hself, Route.isDone]
      · simp [State.routeAt_congr (hother j hj), hj]
  refine h.of_reroute hother (by simp [hi]) (by simp [hself]) rfl rfl rfl (keep := fun _ => true) (by simp)
    (fun _ _ => rfl) (h.accept.congr fun j => ?_) (h.issue.congr fun j => ?_) hresp
  · by_cases hj : j = i
    · simp [hj, hself, hi]
    · rw [State.routeAt_congr (hother j hj)]
  · by_cases hj : j = i
    · simp [hj, hself, hi]
    · rw [State.routeAt_congr (hother j hj)]

/-- A response for an ORPHAN frees it (R15). -/
theorem State.AgreeBut.absorbed (h : s.Agree) (hi : s.routeAt i = some .orphan) : (s.setEntry i none).Agree := by
  have hself : (s.setEntry i none).routeAt i = none := State.routeAt_eq_none.2 (State.entry_setEntry_self s i none)
  have hother : ∀ j, j ≠ i → (s.setEntry i none).entry j = s.entry j :=
    fun j hj => State.entry_setEntry_ne s (Ne.symm hj) none
  refine h.of_reroute hother (by simp [hi]) (by simp [hself]) rfl rfl rfl (keep := fun _ => true) (by simp)
    (fun _ _ => rfl) (h.accept.congr fun j => ?_) (h.issue.congr fun j => ?_) (h.resp.congr fun j => ?_)
  all_goals
    by_cases hj : j = i
    · simp [hj, hself, hi, Route.isDone]
    · rw [State.routeAt_congr (hother j hj)]

/-- The take frees the head of the response queue (R17). -/
theorem State.AgreeBut.tookHead {rest : List TransitIndex} (h : s.Agree) (hq : s.respQ = i :: rest) :
    (s.freeHead i rest).Agree := by
  have hresp := h.resp
  rw [hq] at hresp
  have hi : (s.routeAt i).any Route.isDone = true := (hresp.mem i).1 List.mem_cons_self
  obtain ⟨r, hr, hdone⟩ : ∃ r, s.routeAt i = some r ∧ r.isDone = true := by
    cases hr : s.routeAt i with
    | none => rw [hr] at hi; cases hi
    | some r => exact ⟨r, rfl, by rwa [hr] at hi⟩
  have hnot : s.routeAt i ≠ some .held ∧ s.routeAt i ≠ some .blocked ∧ s.routeAt i ≠ some .issueWait := by
    rw [hr]
    cases r <;> simp [Route.isDone] at hdone ⊢
  have hself : (s.freeHead i rest).routeAt i = none :=
    State.routeAt_eq_none.2 (State.entry_setEntry_self s i none)
  have hother : ∀ j, j ≠ i → (s.freeHead i rest).entry j = s.entry j :=
    fun j hj => State.entry_setEntry_ne s (Ne.symm hj) none
  refine h.of_reroute hother ⟨hnot.1, hnot.2.1⟩ (by simp [hself]) rfl rfl rfl (keep := fun j => decide (j ≠ i)) rfl
    (fun j hj => decide_eq_true hj) (h.accept.leave (fun j hj => ?_) (by simp [hself])) (h.issue.congr fun j => ?_)
    (hresp.tail (fun j hj => ?_) (by simp [hself]))
  · rw [State.routeAt_congr (hother j hj)]
  · by_cases hj : j = i
    · simp [hj, hself, hnot]
    · rw [State.routeAt_congr (hother j hj)]
  · rw [State.routeAt_congr (hother j hj)]

theorem State.TablesSound.event (h : s.TablesSound) (hst : Event soft s t) : t.TablesSound := by
  cases hst with
  | quiet hst => exact h.of_tables hst.tables
  | presented r hlive => exact State.TablesSound.openEpisode (h.of_tables rfl)
  | @accepted r i hacc hfree =>
    obtain ⟨harb, -, hcontexts, -⟩ := Outside.mk.inj (s.accept_outside i r)
    exact (h.of_agree (h.agree.acceptance hacc (State.lowestFree_eq_some.1 hfree).1) hcontexts harb).settle
  | issued hq => exact (h.of_agree (h.agree.issued hq) rfl rfl).settle
  | @responded i e reply he hroute =>
    have hagree (r : Response) : (s.complete i r).TablesSound :=
      h.of_agree (h.agree.completed (hroute ▸ State.routeAt_of_entry he) r) rfl rfl
    cases reply with
    | ok w => exact (hagree _).settle
    | error => exact State.TablesSound.settle ((hagree .error).of_tables rfl)
  | absorbed hi => exact (h.of_agree (h.agree.absorbed hi) rfl rfl).settle
  | taken hq => exact (h.of_agree (h.agree.tookHead hq) rfl rfl).settle
  | hostReset => exact .hostReset s
  | hresetLevel => exact h.of_tables rfl
  | powerOn => exact .of_reset rfl
  | presetNegated => exact h.of_tables rfl
  | expired d dest hmem he =>
    have hposted : (s.postDeadline d).TablesSound := h.of_tables rfl
    exact (hposted.depart hmem he dest).settle
  | commanded hst => exact hst.tablesSound h

end

/-- Settles O54: `State.Consistent` read entry by entry, kept by every event; a departure keeps it through the walk over the
departing entry's chain. -/
theorem stepKeepsTheTablesConsistent : Obligations.StepKeepsTheTablesConsistent :=
  fun _ _ hconsistent hnested hstep =>
    keeps_of_event (P := State.TablesSound) (fun _ _ h => h) (fun _ _ h hst => h.event hst) ⟨hconsistent, hnested⟩ hstep

end Sys2Proof.Machine

namespace Sys2Proof.Machine

-- One proof at a time: proofs in parallel wait for one another on threads of their own, each with its stack.
set_option Elab.async false

/-! ### The part at its power-on values, PRESET# asserted (R22) -/

/-- The part while PRESET# is asserted, with HRESET# at this level and these commands waiting. -/
def State.powered (level : Bool) (queue : List Instr) : State :=
  { State.reset with preset := true, hreset := level, pending := queue }

section
variable {level : Bool} {queue : List Instr} {soft : Prop} {s t : State}

theorem exec_powerOnReset (s : State) : exec .powerOnReset s = .next (.powered s.hreset s.pending) := rfl

theorem State.entry_powered (level : Bool) (queue : List Instr) (i : TransitIndex) :
    (State.powered level queue).entry i = none := Vector.getElem_replicate _

theorem State.idle_powered (level : Bool) (queue : List Instr) : (State.powered level queue).idle = .powered level queue := rfl

/-- The power-on values last as long as PRESET# is asserted: only HRESET# can be seen (R22, R154, R185). -/
theorem exec_powered {c : Instr} (h : exec c (.powered level queue) = .next t) :
    t.preset = false ∨ ∃ level', t = .powered level' queue := by
  cases c with
  | headRequestPresented | acceptance | issue | hostTake | deadlineExpiry | gapTimerExpiry | quiesceCompletion
  | quiesceTimerExpiry | frameWrite | frameRead | abort => cases h; exact .inr ⟨level, rfl⟩
  | memoryResponse i reply =>
    simp only [exec, execMemoryResponse, State.entry_powered] at h
    cases h; exact .inr ⟨level, rfl⟩
  | hostReset => cases h; exact .inr ⟨true, rfl⟩
  | hresetNegation => cases h; exact .inr ⟨false, rfl⟩
  | powerOnReset => cases h; exact .inr ⟨level, rfl⟩
  | presetNegation => cases h; exact .inl rfl
  | _ =>
    rw [eq_writeBytes_of_exec (by simp [commandPayload]) h]
    exact .inr ⟨level, State.writeBytes_preset rfl _⟩

theorem step_powered (h : step (.powered level queue) = .next t) :
    t.preset = false ∨ ∃ level' queue', t = .powered level' queue' := by
  cases queue with
  | nil =>
    cases h
    exact .inr ⟨level, [], State.idle_powered level []⟩
  | cons c rest => exact (exec_powered (level := level) (queue := rest) h).imp id fun ⟨level', heq⟩ => ⟨level', rest, heq⟩

/-- Of all events the assertion of PRESET# alone asserts it. -/
theorem Event.preset (h : Event soft s t) (hs : s.preset = false) :
    t.preset = false ∨ t = .powered s.hreset s.pending := by
  have kept {u : State} (hport : u.hport = s.hport) : u.preset = false := (congrArg HPort.preset hport).trans hs
  cases h with
  | quiet h => exact .inl (kept h.hport)
  | presented r => exact .inl (by simpa using hs)
  | @accepted r i =>
    exact .inl ((State.settle_preset _).trans ((congrArg Outside.preset (s.accept_outside i r)).trans hs))
  | issued => exact .inl ((State.settle_preset _).trans hs)
  | @responded i e reply =>
    refine .inl ((State.settle_preset _).trans ?_)
    cases reply <;> exact hs
  | absorbed => exact .inl ((State.settle_preset _).trans hs)
  | taken => exact .inl ((State.settle_preset _).trans hs)
  | hostReset => exact .inl ((State.settle_preset _).trans hs)
  | hresetLevel => exact .inl hs
  | powerOn => exact .inr rfl
  | presetNegated => exact .inl rfl
  | expired => exact .inl (by simpa using hs)
  | commanded h => exact .inl (kept h.hport)

end

/-- Settles O59: with PRESET# asserted the power-on values last, and it becomes asserted with them alone. -/
theorem stepKeepsPowerOnValuesUnderPreset : Obligations.StepKeepsPowerOnValuesUnderPreset := by
  intro s t hs hstep ht
  have outcome : t.preset = false ∨ ∃ level queue, t = .powered level queue := by
    by_cases hp : s.preset = true
    · rw [hs hp] at hstep
      exact step_powered hstep
    · have hnot : s.preset = false := by simpa using hp
      rcases event_of_step hstep with ⟨-, hidle⟩ | ⟨c, rest, -, hcommand⟩
      · exact (hidle.preset hnot).imp id fun heq => ⟨_, _, heq⟩
      · exact (hcommand.preset hnot).imp id fun heq => ⟨_, _, heq⟩
  rcases outcome with hfalse | ⟨level, queue, rfl⟩
  · rw [hfalse] at ht
    cases ht
  · rfl

/-- Settles O53: each invariant evaluated on the reset state. -/
theorem resetIsSound : Obligations.ResetIsSound := by
  obtain ⟨hconsistent, hnested⟩ : State.reset.TablesSound := .of_reset rfl
  refine ⟨hconsistent, hnested, by decide, ?_, ?_, ?_, trivial, by decide, by decide⟩
  · unfold State.OccurrencesInRange; decide
  · unfold State.ListsSound; decide
  · unfold State.TimersTimely; decide

/-- Settles O3: the part after the event is `State.powered`, whatever it was before. -/
theorem powerOnResetValues : Obligations.PowerOnResetValues := by
  intro s
  exact ⟨.powered s.hreset s.pending, exec_powerOnReset s, rfl, rfl, rfl, rfl, rfl, rfl, rfl, rfl,
    State.entry_powered _ _, rfl, rfl, rfl, rfl, rfl, fun i => Vector.getElem_replicate _, rfl, rfl,
    fun c => Vector.getElem_replicate _, rfl, fun n => rfl, fun l => Vector.getElem_replicate _,
    fun l => Vector.getElem_replicate _, (by decide : Causes.clear.setBits = 0), rfl,
    (by decide : State.reset.attn = false), rfl, rfl, rfl, by decide⟩

/-- Settles O4: the negations are read off their rows, and a part out of power-on reset with HRESET# asserted answers no
head request. -/
theorem resetInputsNegated : Obligations.ResetInputsNegated := by
  have negation (s : State) : exec .presetNegation s = .next (if s.preset then { s with preset := false, now := 0 } else s) :=
    rfl
  refine ⟨fun s hp => ?_, fun s hp => ?_, fun s => rfl, fun s r hp hh hs => ?_⟩
  · rw [negation, if_pos hp]
  · rw [negation, if_neg (by simp [hp])]
  · have heq : s = .powered true s.pending := (hs hp).trans (by rw [hh]; rfl)
    refine ⟨{ State.reset with hreset := true, pending := s.pending }, ?_, rfl, rfl, rfl, rfl, rfl, rfl⟩
    rw [heq]
    rfl

end Sys2Proof.Machine

namespace Sys2Proof.Machine

-- One proof at a time: proofs in parallel wait for one another on threads of their own, each with its stack.
set_option Elab.async false

/-! ### Host reset (R18, R147) -/

section
variable {s t : State}

theorem exec_hostReset (s : State) :
    exec .hostReset s = .next (if s.preset then { s with hreset := true } else if s.hreset then s else s.hostResetEvent) :=
  rfl

/-- QUIESCE's test changes the link alone. -/
theorem State.quiesceTest_eq (s : State) : s.quiesceTest = { s with link := s.quiesceTest.link } := by
  unfold State.quiesceTest
  split
  · split <;> rfl
  all_goals rfl

/-- The part as host reset leaves it, before QUIESCE's test. -/
def State.hostCleared (s : State) : State :=
  ({ s with
      hreset := true, head := none, episode := false, entries := s.entries.map resetEntry,
      acceptOrder := [], issueQ := [], respQ := [], blocked := [], pool := [],
      contexts := Vector.replicate 4 none }).postHostReset s.hostResetDetail

theorem State.hostResetEvent_eq (s : State) : s.hostResetEvent = s.hostCleared.quiesceTest :=
  State.settle_of_no_head rfl

theorem State.countAt_eq_zero {p : Option Route → Bool} (h : ∀ i, p (s.routeAt i) = false) : s.countAt p = 0 :=
  List.countP_eq_zero.2 fun i _ => by simp [h i]

/-- Only ORPHANs are left after host reset: QUIESCE answers three counts of 0 (R168, R182). -/
theorem State.quiesceReply_hostCleared (s : State) : s.hostCleared.quiesceReply = replyOk [0x00, 0x00, 0x00] := by
  have hroute (i : TransitIndex) : s.hostCleared.routeAt i = none ∨ s.hostCleared.routeAt i = some .orphan :=
    State.routeAt_hostReset (s := s) rfl i
  have hzero (p : Option Route → Bool) (hnone : p none = false) (horphan : p (some .orphan) = false) :
      s.hostCleared.countAt p = 0 := State.countAt_eq_zero fun i => by rcases hroute i with h | h <;> rw [h] <;> assumption
  rw [State.quiesceReply, State.countRoute_decide, State.countRoute_decide, State.countRoute_eq_countAt,
    hzero _ (by decide) (by decide), hzero _ (by decide) (by decide), hzero _ rfl rfl]
  rfl

/-- What host reset leaves forwarded: the entries that wait for memory or for the absorption of its response (R18). -/
theorem State.anyForwarded_hostCleared : s.hostCleared.anyForwarded = true ↔
    ∃ i, s.routeAt i = some .inMemory ∨ s.routeAt i = some .orphan := by
  rw [State.anyForwarded_iff]
  refine exists_congr fun i => ?_
  have hentry : s.hostCleared.entry i = resetEntry (s.entry i) := State.entry_of_map rfl i
  rw [State.routeAt, State.routeAt, hentry]
  cases s.entry i with
  | none => simp [resetEntry]
  | some e =>
    by_cases hmem : e.route = .inMemory
    · simp [resetEntry_of_inMemory hmem, hmem]
    · by_cases horphan : e.route = .orphan
      · simp [resetEntry_of_orphan horphan, horphan]
      · simp [resetEntry_of_freed hmem horphan, hmem, horphan]

theorem State.entry_hostReset_freed {i : TransitIndex} (hmem : s.routeAt i ≠ some .inMemory)
    (horphan : s.routeAt i ≠ some .orphan) : s.hostResetEvent.entry i = none := by
  rw [State.entry_hostResetEvent]
  cases he : s.entry i with
  | none => rfl
  | some e =>
    rw [State.routeAt_of_entry he] at hmem horphan
    exact resetEntry_of_freed (fun h => hmem (congrArg some h)) fun h => horphan (congrArg some h)

end

/-- Settles O5: the transit table entry by entry, the other fields as host reset writes them or leaves them, and QUIESCE's
test at its end. -/
theorem hostResetEvent : Obligations.HostResetEvent := by
  refine ⟨fun s hpreset hhreset => ⟨s.hostResetEvent, ?exec, ?entries⟩, fun s hp => ?underPreset, fun s hp hh => ?held⟩
  case exec => rw [exec_hostReset, if_neg (by simp [hpreset]), if_neg (by simp [hhreset])]
  case underPreset => rw [exec_hostReset, if_pos hp]
  case held => rw [exec_hostReset, if_neg (by simp [hp]), if_pos hh]
  case entries =>
    have hcauses : s.hostCleared.causes = { s.causes with
        hostReset := post s.causes.hostReset
          { held := s.countAt fun r => decide (r = some .held), blocked := s.countAt fun r => decide (r = some .blocked),
            orphaned := s.countAt fun r => decide (r = some .inMemory) } } := by
      simp only [← State.countRoute_decide]
      rfl
    have hcontext (c : ContextIndex) : s.hostCleared.context c = none := Vector.getElem_replicate _
    refine ⟨fun i e he hroute => ?inMemory, fun i e he hroute => ?orphan,
      fun i hmem horphan => State.entry_hostReset_freed hmem horphan, ?_⟩
    case inMemory => rw [State.entry_hostResetEvent, he, resetEntry_of_inMemory hroute]
    case orphan => rw [State.entry_hostResetEvent, he, resetEntry_of_orphan hroute]
    have hlive : s.hostResetEvent.presentedResponse = none := by
      have hshut : s.hostResetEvent.hportLive = false := by simp [State.hportLive, State.hostResetEvent]
      rw [State.presentedResponse, hshut]
      rfl
    rw [State.hostResetEvent_eq, State.quiesceTest_eq] at hlive ⊢
    refine ⟨rfl, rfl, rfl, rfl, rfl, hcontext, rfl, rfl, rfl, rfl, hlive, hcauses, rfl, rfl, rfl, rfl, rfl, rfl, rfl, rfl,
      rfl, hpreset, rfl, rfl, fun hwait => ?waits, fun L started hlink hnone => ?completes⟩
    case waits =>
      have hkept : s.hostCleared.quiesceTest = s.hostCleared := by
        refine State.quiesceTest_eq_self _ fun hdue => State.anyForwarded_hostCleared.2 ?_
        exact hwait.resolve_left fun hidle => by simp [show s.hostCleared.quiesceDue = none from hidle] at hdue
      exact (congrArg State.link hkept).trans rfl
    case completes =>
      have hforwarded : ¬ s.hostCleared.anyForwarded = true := by
        rw [State.anyForwarded_hostCleared]
        rintro ⟨i, hi⟩
        exact hi.elim (hnone i).1 (hnone i).2
      have hdone := State.quiesceTest_of_none (s := s.hostCleared) hlink hforwarded
      rw [State.quiesceReply_hostCleared] at hdone
      exact (congrArg State.link hdone).trans rfl

end Sys2Proof.Machine

namespace Sys2Proof.Machine

-- One proof at a time: proofs in parallel wait for one another on threads of their own, each with its stack.
set_option Elab.async false

/-! ### Issue (R14) -/

section
variable {s : State} {i : TransitIndex} {e : Entry} {route : Route}

/-- The part with entry i, which is e, at another route and this issue queue. -/
def State.rerouted (s : State) (i : TransitIndex) (e : Entry) (route : Route) (queue : List TransitIndex) : State :=
  { s with entries := s.entries.set i (some { e with route := route }), issueQ := queue }

variable {queue : List TransitIndex}

theorem State.entry_rerouted (j : TransitIndex) :
    (s.rerouted i e route queue).entry j = if i = j then some { e with route := route } else s.entry j :=
  State.entry_setEntry s i j _

/-- A test that does not tell the two routes apart finds the transit table as it was. -/
theorem State.anyEntry_rerouted (he : s.entry i = some e) {p : Entry → Bool} (hp : p { e with route := route } = p e) :
    (s.rerouted i e route queue).anyEntry p = s.anyEntry p := by
  rw [Bool.eq_iff_iff, State.anyEntry_iff, State.anyEntry_iff]
  refine exists_congr fun j => ?_
  rw [State.entry_rerouted]
  split
  · next hij =>
    subst hij
    simp [he, hp]
  · rfl

/-- Neither an ORPHAN nor on the blocked list nor in the pool before and after: the H-port's test finds the same (R5). -/
theorem State.stallReason_rerouted (he : s.entry i = some e)
    (horphan : decide (route ≠ .orphan) = decide (e.route ≠ .orphan)) (hblocks : route.blocksLine = e.route.blocksLine) :
    (s.rerouted i e route queue).stallReason = s.stallReason := by
  refine State.stallReason_congr rfl fun r => ?_
  have hclash : (s.rerouted i e route queue).clashes r = s.clashes r :=
    State.anyEntry_rerouted he (by simp only [horphan])
  have hline : (s.rerouted i e route queue).lineBlocked r = s.lineBlocked r :=
    State.anyEntry_rerouted he (by simp only [hblocks])
  have hfree : (s.rerouted i e route queue).lowestFree = s.lowestFree := by
    unfold State.lowestFree
    congr 1
    funext j
    rw [State.entry_rerouted]
    split
    · next hij => rw [← hij, he]; rfl
    · rfl
  have hprospect : (s.rerouted i e route queue).prospect r = s.prospect r := by
    simp only [State.prospect, hclash, hline]
    rfl
  simp only [State.obstacle, hfree, hprospect]
  rfl

/-- The entry issued is forwarded before and after, so a settled part stays so. -/
theorem State.Settled.rerouted (h : s.Settled) (he : s.entry i = some e) (hroute : e.route = .issueWait) :
    (s.rerouted i e .inMemory queue).Settled := by
  obtain ⟨hstall, hquiesce, hshut⟩ := h
  refine ⟨fun hr => hstall ?_, fun hdue => ?_, hshut⟩
  · rwa [State.stallReason_rerouted he (by rw [hroute]; rfl) (by rw [hroute]; rfl)] at hr
  · have hforwarded : (s.rerouted i e .inMemory queue).anyForwarded = s.anyForwarded :=
      State.anyEntry_rerouted he (by rw [hroute]; rfl)
    rw [hforwarded]
    exact hquiesce hdue

theorem State.presentedIssue_of_head {rest : List TransitIndex} (hp : s.preset = false) (hq : s.issueQ = i :: rest)
    (he : s.entry i = some e) : s.presentedIssue = some (i, e.req) := by
  simp [State.presentedIssue, hp, hq, he]

theorem exec_issue_of_head {rest : List TransitIndex} (hp : s.preset = false) (hq : s.issueQ = i :: rest)
    (he : s.entry i = some e) : exec .issue s = .next (s.rerouted i e .inMemory rest).settle := by
  simp only [exec, execIssue, State.presentedIssue_of_head hp hq he, hq]
  simp [State.rerouted, State.setRoute, State.setEntry, he]

end

/-- Settles O15: the issue leaves the part settled, so its end-of-event tests change nothing. -/
theorem issueTakesTheHeadOfTheIssueQueue : Obligations.IssueTakesTheHeadOfTheIssueQueue := by
  refine ⟨fun s i rest e hp hsettled hq he hroute => ⟨State.presentedIssue_of_head hp hq he, ?_⟩, fun s hnone => ?_⟩
  · rw [exec_issue_of_head hp hq he, State.settle_eq_self _ (hsettled.rerouted he hroute)]
    rfl
  · have hpresented : s.presentedIssue = none := by
      unfold State.presentedIssue
      rcases hnone with hp | hq
      · rw [if_pos hp]
      · rw [hq]
        exact ite_self _
    exact ⟨hpresented, by simp only [exec, execIssue, hpresented]⟩

/-! ### A memory response (R15) -/

section
variable {s : State} {i : TransitIndex} {e : Entry}

theorem exec_memoryResponse_of_inMemory (he : s.entry i = some e) (hroute : e.route = .inMemory) (reply : MemReply) :
    exec (.memoryResponse i reply) s = .next (s.respond i e reply).settle := by
  simp only [exec, execMemoryResponse, he, hroute]

theorem State.respond_ok (he : s.entry i = some e) (w : Word) : s.respond i e (.ok w) = { s with
    entries := s.entries.set i (some { e with route := .done (okResponse e.req.access w) })
    respQ := s.respQ ++ [i] } := State.complete_eq he _

theorem State.respond_error (he : s.entry i = some e) : s.respond i e .error = { s with
    entries := s.entries.set i (some { e with route := .done .error })
    respQ := s.respQ ++ [i]
    causes := { s.causes with
      memoryError := post s.causes.memoryError
        { master := e.req.master, tag := e.req.tag, addr := e.req.addr, kind := kindOf e.req.access } } } := by
  rw [State.respond, State.complete_eq he]
  rfl

end

/-- Settles O16: a response by the route state of its entry. -/
theorem memoryResponseByRouteState : Obligations.MemoryResponseByRouteState := by
  refine fun s i => ⟨fun e he hroute => ⟨fun w hread => ?read, fun w hwrite => ?write, ?error⟩,
    fun horphan reply => ?orphan, fun hmem horphan reply => ?ignored⟩
  case read => rw [exec_memoryResponse_of_inMemory he hroute, State.respond_ok he, hread]; rfl
  case write =>
    obtain ⟨data, hdata⟩ := Access.exists_write hwrite
    rw [exec_memoryResponse_of_inMemory he hroute, State.respond_ok he, hdata]
    rfl
  case error => rw [exec_memoryResponse_of_inMemory he hroute, State.respond_error he]
  case orphan =>
    obtain ⟨e, he, hroute⟩ := State.exists_entry_of_routeAt horphan
    simp only [exec, execMemoryResponse, he, hroute]
    rfl
  case ignored =>
    cases he : s.entry i with
    | none => simp only [exec, execMemoryResponse, he]
    | some e =>
      rw [State.routeAt_of_entry he] at hmem horphan
      simp only [exec, execMemoryResponse, he]
      split
      · next h => exact absurd (congrArg some h) hmem
      · next h => exact absurd (congrArg some h) horphan
      all_goals rfl

/-! ### The host's take (R16, R17) -/

/-- Settles O17: the response presented is that of the head of the response queue, which the take frees. -/
theorem hostTakeFreesTheHeadResponse : Obligations.HostTakeFreesTheHeadResponse := by
  refine ⟨fun s i rest e r hlive hq he hroute => ?_, fun s hnone => ?_⟩
  · have hpresented : s.presentedResponse = some (presentedOf e.req r) := by
      simp only [State.presentedResponse, hlive, hq, he, hroute, if_true]
    refine ⟨?_, ?_⟩
    · rw [hpresented]
      cases r <;> rfl
    · simp only [exec, execHostTake, hpresented, hq]
      rfl
  · have hpresented : s.presentedResponse = none := by
      unfold State.presentedResponse
      rcases hnone with hdead | hq
      · rw [hdead]; rfl
      · rw [hq]
        exact ite_self _
    exact ⟨hpresented, by simp only [exec, execHostTake, hpresented]⟩

/-! ### SOFT RESET (R170) -/

/-- The part as SOFT RESET leaves it, before the H-port's test. -/
def State.softCleared (s : State) : State :=
  { s with
    entries := s.entries.map softResetEntry
    respQ := s.respQ ++ s.pool.map Slot.entry
    issueQ := s.issueQ ++ s.blocked
    pool := []
    blocked := []
    windows := s.windows.map fun (w : Window) => { w with valid := false, hits := 0 }
    arb := Arbitration.powerOn
    contexts := Vector.replicate 4 none
    answerLists := s.answerLists.map fun (a : AnswerList) => { a with state := .idle }
    captureLists := s.captureLists.map fun (c : CaptureList) => { c with state := .idle }
    causes := Causes.clear
    gate := .opened }

theorem cmdSoftReset_eq (s : State) : cmdSoftReset s = (s.softCleared.openEpisode, replyOnly .ok) := rfl

/-- Settles O52: the transit table entry by entry, the other fields as `State.softCleared` has them. -/
theorem softResetEvent : Obligations.SoftResetEvent := by
  intro s hready
  have hentry (i : TransitIndex) : s.softCleared.entry i = softResetEntry (s.entry i) := State.entry_of_map rfl i
  refine ⟨s.softCleared, exec_of_cmd hready (cmdSoftReset_eq s) fun _ => rfl, fun i e he hroute => ?held,
    fun i e he hroute => ?blocked, fun i hheld hblocked => ?other, rfl, rfl, rfl, rfl, fun i => Vector.getElem_map _ _,
    fun c => Vector.getElem_replicate _, rfl, fun l => Vector.getElem_map _ _, fun l => Vector.getElem_map _ _, rfl, rfl,
    ?notify, ?attn, rfl, rfl, rfl, rfl, rfl, rfl, rfl, rfl, rfl, rfl, rfl⟩
  case held => rw [hentry, he, softResetEntry_of_held hroute]
  case blocked => rw [hentry, he, softResetEntry_of_blocked hroute]; rfl
  case other =>
    rw [hentry]
    cases he : s.entry i with
    | none => rfl
    | some e =>
      rw [State.routeAt_of_entry he] at hheld hblocked
      exact softResetEntry_of_other (fun h => hheld (congrArg some h)) fun h => hblocked (congrArg some h)
  case notify => simp [State.notify, State.eligible, State.softCleared]
  case attn =>
    have hclear : Causes.clear.setBits = 0 := by decide
    show decide (Causes.clear.setBits &&& s.enabled ≠ 0) = false
    simp [hclear]

end Sys2Proof.Machine
